-- ==== Sys2Proof/Word.lean ====
section
/-! DEFINITION. The widths and numbers of the book's conventions (Introduction, section 5). -/

namespace Sys2Proof

/-- One byte. -/
abbrev Byte := BitVec 8

/-- A D-bus address: 40 bits (Introduction 5.2). -/
abbrev Address := BitVec 40

/-- A line address: the address with its low 6 bits dropped, a 34-bit line number (Introduction 5.2). -/
abbrev Line := BitVec 34

/-- A byte offset within a line, 0–63: the low 6 bits of an address (Introduction 5.2, R101). -/
abbrev Offset := BitVec 6

/-- A page number: the address with its low 12 bits dropped, 0–0FFFFFFF Hex (R88). -/
abbrev Page := BitVec 28

/-- A stream number, 0–7 (Introduction 5.3). -/
abbrev StreamNo := Fin 8

/-- An M-link tag number, 0–15 (R69). -/
abbrev TagNo := Fin 16

/-- A decode window number, 0–15 (R88). -/
abbrev WindowNo := Fin 16

/-- The 64 byte values of a line, offsets 0–63 (R45, R67). -/
abbrev LineData := Vector Byte 64

/-- A set of byte offsets of a line, each with its value: `some v` at the offsets held (R2, R3). -/
abbrev ByteSet := Vector (Option Byte) 64

end Sys2Proof
end

