-- ==== Sys2Proof/Config.lean ====
section
/-! DEFINITION. The fixed numbers of the part: capacities, ranges, power-on values, the ID item. The spec leaves no value of
the part implementation-defined, so there is no free value here. -/

namespace Sys2Proof

/-- R1: the PQ holds at most 32 entries. -/
def Config.pqCapacity : Nat := 32

/-- R44: the PRT holds at most 8 entries. -/
def Config.prtCapacity : Nat := 8

/-- R134: the NQ holds at most 16 notices. -/
def Config.nqCapacity : Nat := 16

/-- R138: the EL holds at most 8 records. -/
def Config.elCapacity : Nat := 8

/-- R72: the write pressure level. -/
def Config.writePressure : Nat := 24

/-- R144: a counter stays at 0FFFFFFFF Hex. -/
def Config.counterMax : Nat := 0xFFFFFFFF

/-- R135, R139: the lost-counts run 0–255. -/
def Config.lostMax : Nat := 255

/-- R149: a frame carries at most 12 data bytes. -/
def Config.maxFrameData : Nat := 12

/-- R154: the ID item, part code 2440 Hex and revision 01 Hex. -/
def Config.idBytes : List Byte := [0x24, 0x40, 0x01]

/-- R155: the power-on values of the four timer items. -/
def Config.combineAge : Nat := 8
/-- R155. -/
def Config.claimTime : Nat := 1000
/-- R155. -/
def Config.lingerTime : Nat := 50
/-- R155. -/
def Config.memTimeout : Nat := 2000

end Sys2Proof
end

