-- ==== Sys2Proof/Syntax.lean ====
section
/-! DEFINITION. The commands of the part: one constructor of `Instr` for each row of spec/opcode_table.json, with the operands
that the row's rule gives the event. A command of the management port carries the frame that ends; the row fixes the frame's
first bytes, and the operand holds the bytes after them. -/

namespace Sys2Proof

/-- A whole management frame as shifted in between the fall and the rise of CS (R148): its whole bytes, and the number of SCK
cycles beyond the last whole byte. The frame has a broken byte exactly when `extra` is not 0. -/
structure Frame where
  bytes : List Byte
  extra : Fin 8
  deriving DecidableEq, Repr

/-- What a management frame carries after the bytes that its row fixes: the command byte, or the command byte and the item
field. -/
structure FrameTail where
  bytes : List Byte
  extra : Fin 8
  deriving DecidableEq, Repr

/-- The twelve commands of table 9-3. -/
inductive Command where
  | nop | readItem | writeItem | start | stop | clear | hold | unhold | clearFault | takeNotice | takeError | freeLapsed
  deriving DecidableEq, Repr

/-- The four timer items (R155). -/
inductive TimerItem where
  | combineAge | claimTime | lingerTime | memTimeout
  deriving DecidableEq, Repr

/-- The items of table 9-4 (R154). The counters are numbered in the order of table 8-2. -/
inductive Item where
  | id | state | pqCount | prtCount | tagCounts | nqCount | noticesLost | elCount | errorsLost
  | timer (t : TimerItem)
  | window (w : WindowNo)
  | stream (i : StreamNo)
  | counter (c : Fin 19)
  deriving DecidableEq, Repr

/-- The status of a Write Response (R67). -/
inductive ResponseStatus where
  | ok | fault
  deriving DecidableEq, Repr

/-- The status of a Read Response, with the 64 data bytes present only when the status is OK (R67). -/
inductive ReadResult where
  | ok (data : LineData)
  | fault
  deriving DecidableEq, Repr

/-- The commands: one constructor per row of spec/opcode_table.json, in the table's order. -/
inductive Instr where
  /-- WRITE (R105): stream, start address and data; the byte count is the number of data bytes (R101). -/
  | write (stream : StreamNo) (addr : Address) (data : List Byte)
  /-- READ (R106): stream, start address and byte count (R101). -/
  | read (stream : StreamNo) (addr : Address) (count : Nat)
  /-- GRANT (R73): the issue arbiter's turn. -/
  | grant
  /-- WRITE_RESPONSE (R75). -/
  | writeResponse (tag : TagNo) (status : ResponseStatus)
  /-- READ_RESPONSE (R76). -/
  | readResponse (tag : TagNo) (result : ReadResult)
  /-- READY_ASSERTION (R68). -/
  | readyAssertion
  /-- READY_DEASSERTION (R68). -/
  | readyDeassertion
  /-- TICK (R162). -/
  | tick
  /-- COMBINE_AGE_EXPIRY (R15) of the stream's OPEN entry; a stream has at most one (R5). -/
  | combineAgeExpiry (stream : StreamNo)
  /-- CLAIM_TIME_OUT (R60) of the PRT entry of a stream and line; there is at most one (R44). -/
  | claimTimeOut (stream : StreamNo) (line : Line)
  /-- LINGER_TIMER_EXPIRY (R61) of the PRT entry of a stream and line. -/
  | lingerTimerExpiry (stream : StreamNo) (line : Line)
  /-- MEMORY_TIME_OUT (R81) of a tag. -/
  | memoryTimeOut (tag : TagNo)
  /-- D_BUS_RESET (R116): the assertion of DRSTn. -/
  | dBusReset
  /-- RELEASE_OF_DRSTN (R117). -/
  | releaseOfDrstn
  /-- POWER_ON_RESET (R163): the assertion of PORn. -/
  | powerOnReset
  /-- RELEASE_OF_PORN (R163): `csLow` is the level of CS at the release (R164), and `fullPulse` says that the PORn pulse now ending lasted
  at least the minimum of table 10-2. -/
  | releaseOfPorn (csLow fullPulse : Bool)
  /-- NOP (R151): the end of a frame whose command byte is 00 Hex, names no command, or is absent. -/
  | nop (frame : Frame)
  /-- READ_ITEM (R152): the bytes after the command byte. -/
  | readItem (tail : FrameTail)
  /-- WRITE_ITEM (R153) of an item without write behaviour of its own: the bytes after the command byte. -/
  | writeItem (tail : FrameTail)
  /-- WRITE_ITEM_WINDOW (R96): the window named by the item field, and the bytes after that field. -/
  | writeItemWindow (window : WindowNo) (tail : FrameTail)
  /-- WRITE_ITEM_TIMER (R155). -/
  | writeItemTimer (item : TimerItem) (tail : FrameTail)
  /-- WRITE_ITEM_ORDER_MODE (R41). -/
  | writeItemOrderMode (stream : StreamNo) (tail : FrameTail)
  /-- START (R121). -/
  | start (tail : FrameTail)
  /-- STOP (R122). -/
  | stop (tail : FrameTail)
  /-- CLEAR (R126). -/
  | clear (tail : FrameTail)
  /-- HOLD (R128). -/
  | hold (tail : FrameTail)
  /-- UNHOLD (R129). -/
  | unhold (tail : FrameTail)
  /-- CLEAR_FAULT (R39). -/
  | clearFault (tail : FrameTail)
  /-- TAKE_NOTICE (R136). -/
  | takeNotice (tail : FrameTail)
  /-- TAKE_ERROR_RECORD_FORM (R140): the bytes after the command byte; a form selector other than 0000 Hex and 0001 Hex gives
  BAD_ITEM. -/
  | takeErrorRecordForm (tail : FrameTail)
  /-- TAKE_ERROR_LOST_COUNT_FORM (R141): the bytes after the form selector 0001 Hex. -/
  | takeErrorLostCountForm (tail : FrameTail)
  /-- FREE_LAPSED (R84). -/
  | freeLapsed (tail : FrameTail)
  /-- REFCLK_CYCLE (R162). -/
  | refclkCycle
  deriving DecidableEq, Repr

end Sys2Proof
end

