-- ==== Sys2Proof/Decode.lean ====
section
/-! DEFINITION. The rows of the opcode table give no bits, so `decodeTableWord` reads no command from a word. What the part does
decode is a management frame: the command codes of table 9-3, the item numbers of table 9-4, the row a frame belongs to, and the
frame a row stands for. -/

namespace Sys2Proof

/-- Table 9-3: the command codes. -/
def commandCode : Command → Byte
  | .nop => 0x00
  | .readItem => 0x01
  | .writeItem => 0x02
  | .start => 0x10
  | .stop => 0x11
  | .clear => 0x12
  | .hold => 0x20
  | .unhold => 0x21
  | .clearFault => 0x22
  | .takeNotice => 0x30
  | .takeError => 0x31
  | .freeLapsed => 0x40

/-- Table 9-3: the commands, in the table's order. -/
def allCommands : List Command :=
  [.nop, .readItem, .writeItem, .start, .stop, .clear, .hold, .unhold, .clearFault, .takeNotice, .takeError, .freeLapsed]

/-- The command that a command byte names; none where it names no command of table 9-3 (R149, check 4). -/
def commandOfCode (b : Byte) : Option Command :=
  allCommands.find? fun c => commandCode c == b

/-- Multi-byte numbers are sent most significant byte first (R149): the number that bytes spell. -/
def beNat (bs : List Byte) : Nat :=
  bs.foldl (fun n b => n * 256 + b.toNat) 0

/-- The last `k` bytes of a number, most significant byte first (R149). -/
def beBytes : (k : Nat) → Nat → List Byte
  | 0, _ => []
  | k + 1, n => beBytes k (n / 256) ++ [BitVec.ofNat 8 n]

/-- Table 9-4: the item that a number names (R154). -/
def itemOfNumber (n : Nat) : Option Item :=
  if n = 0x00 then some .id
  else if n = 0x01 then some .state
  else if n = 0x02 then some .pqCount
  else if n = 0x03 then some .prtCount
  else if n = 0x04 then some .tagCounts
  else if n = 0x05 then some .nqCount
  else if n = 0x06 then some .noticesLost
  else if n = 0x07 then some .elCount
  else if n = 0x08 then some .errorsLost
  else if n = 0x10 then some (.timer .combineAge)
  else if n = 0x11 then some (.timer .claimTime)
  else if n = 0x12 then some (.timer .lingerTime)
  else if n = 0x13 then some (.timer .memTimeout)
  else if h : 0x20 ≤ n ∧ n ≤ 0x2F then some (.window ⟨n - 0x20, by omega⟩)
  else if h : 0x30 ≤ n ∧ n ≤ 0x37 then some (.stream ⟨n - 0x30, by omega⟩)
  else if h : 0x40 ≤ n ∧ n ≤ 0x52 then some (.counter ⟨n - 0x40, by omega⟩)
  else none

/-- Table 9-4: the number of an item (R154). -/
def itemNumber : Item → Nat
  | .id => 0x00
  | .state => 0x01
  | .pqCount => 0x02
  | .prtCount => 0x03
  | .tagCounts => 0x04
  | .nqCount => 0x05
  | .noticesLost => 0x06
  | .elCount => 0x07
  | .errorsLost => 0x08
  | .timer .combineAge => 0x10
  | .timer .claimTime => 0x11
  | .timer .lingerTime => 0x12
  | .timer .memTimeout => 0x13
  | .window w => 0x20 + w.val
  | .stream i => 0x30 + i.val
  | .counter c => 0x40 + c.val

/-- The frame of a row that fixes the command byte. -/
def commandFrame (c : Command) (t : FrameTail) : Frame :=
  ⟨commandCode c :: t.bytes, t.extra⟩

/-- The frame of a row that fixes the command byte and the item field (table 9-1). -/
def itemFrame (c : Command) (n : Nat) (t : FrameTail) : Frame :=
  ⟨commandCode c :: (beBytes 2 n ++ t.bytes), t.extra⟩

/-- The frame whose end a management command is; none for the commands of the other interfaces. -/
def frameOfInstr : Instr → Option Frame
  | .nop f => some f
  | .readItem t => some (commandFrame .readItem t)
  | .writeItem t => some (commandFrame .writeItem t)
  | .writeItemWindow w t => some (itemFrame .writeItem (itemNumber (.window w)) t)
  | .writeItemTimer i t => some (itemFrame .writeItem (itemNumber (.timer i)) t)
  | .writeItemOrderMode i t => some (itemFrame .writeItem (itemNumber (.stream i)) t)
  | .start t => some (commandFrame .start t)
  | .stop t => some (commandFrame .stop t)
  | .clear t => some (commandFrame .clear t)
  | .hold t => some (commandFrame .hold t)
  | .unhold t => some (commandFrame .unhold t)
  | .clearFault t => some (commandFrame .clearFault t)
  | .takeNotice t => some (commandFrame .takeNotice t)
  | .takeErrorRecordForm t => some (commandFrame .takeError t)
  | .takeErrorLostCountForm t => some (itemFrame .takeError 1 t)
  | .freeLapsed t => some (commandFrame .freeLapsed t)
  | .write .. | .read .. | .grant | .writeResponse .. | .readResponse .. | .readyAssertion | .readyDeassertion | .tick
  | .combineAgeExpiry .. | .claimTimeOut .. | .lingerTimerExpiry .. | .memoryTimeOut .. | .dBusReset | .releaseOfDrstn
  | .powerOnReset | .releaseOfPorn .. | .refclkCycle => none

/-- The row of a WRITE ITEM frame: the row of the item it names, where that item has write behaviour of its own. -/
def writeItemRow (bytes : List Byte) (extra : Fin 8) : Instr :=
  match bytes with
  | hi :: lo :: rest =>
    match itemOfNumber (beNat [hi, lo]) with
    | some (.window w) => .writeItemWindow w ⟨rest, extra⟩
    | some (.timer i) => .writeItemTimer i ⟨rest, extra⟩
    | some (.stream i) => .writeItemOrderMode i ⟨rest, extra⟩
    | _ => .writeItem ⟨bytes, extra⟩
  | _ => .writeItem ⟨bytes, extra⟩

/-- The row of a TAKE ERROR frame, selected by its item field (R140, R158). -/
def takeErrorRow (bytes : List Byte) (extra : Fin 8) : Instr :=
  match bytes with
  | hi :: lo :: rest =>
    if beNat [hi, lo] = 1 then .takeErrorLostCountForm ⟨rest, extra⟩ else .takeErrorRecordForm ⟨bytes, extra⟩
  | _ => .takeErrorRecordForm ⟨bytes, extra⟩

/-- The command that the end of a frame is: every frame on the wire belongs to exactly one row. A frame without a command byte,
or whose command byte names no command, belongs to the NOP row. -/
def instrOfFrame (f : Frame) : Instr :=
  match f.bytes with
  | [] => .nop f
  | b :: rest =>
    match commandOfCode b with
    | none => .nop f
    | some .nop => .nop f
    | some .readItem => .readItem ⟨rest, f.extra⟩
    | some .writeItem => writeItemRow rest f.extra
    | some .start => .start ⟨rest, f.extra⟩
    | some .stop => .stop ⟨rest, f.extra⟩
    | some .clear => .clear ⟨rest, f.extra⟩
    | some .hold => .hold ⟨rest, f.extra⟩
    | some .unhold => .unhold ⟨rest, f.extra⟩
    | some .clearFault => .clearFault ⟨rest, f.extra⟩
    | some .takeNotice => .takeNotice ⟨rest, f.extra⟩
    | some .takeError => takeErrorRow rest f.extra
    | some .freeLapsed => .freeLapsed ⟨rest, f.extra⟩

/-- No row of spec/opcode_table.json gives bits, so no word spells a command. -/
def decodeTableWord (_nbits _w : Nat) : Option Instr :=
  none

end Sys2Proof
end

