-- ==== Sys2Proof/Machine/State.lean ====
section
/-! DEFINITION. The state of the part: every register, table, queue, counter, mode and pin that the spec names, the three
interface outputs, and the queue of waiting commands. -/

namespace Sys2Proof.Machine

/-- What stops the machine. -/
inductive Fault where
  /-- Raised by RELEASE_OF_PORN alone, when the PORn pulse that ends was shorter than the minimum of table 10-2: R163 says that
  it "may leave the part in no defined state". Safe: the machine stops where the spec gives no state. -/
  | resetPulseTooShort
  deriving DecidableEq, Repr

/-- Why a command has no meaning. -/
inductive Refusal where
  /-- A command of the table without a meaning in the model. No arm of `exec` answers it. Safe: the machine stops. -/
  | notModelled (mnemonic : String)
  deriving DecidableEq, Repr

/-- A running timer: whole timebase ticks since its start, and the limit captured at its start (R2, R45, R69). -/
structure Timer where
  count : Nat
  limit : Nat
  deriving DecidableEq, Repr

/-- The operating state of the part (R119). -/
inductive OpState where
  | offline | online | draining
  deriving DecidableEq, Repr

/-- The kind of a PQ entry with the fields that only that kind has (table 1-1). -/
inductive EntryKind where
  /-- PLAIN, with the mergeable field. -/
  | plain (mergeable : Bool)
  /-- RELEASE, with the window, notify and void mark fields. -/
  | release (window : WindowNo) (notify : Bool) (voidMark : Bool)
  deriving DecidableEq, Repr

/-- The state of a PQ entry with the fields that only that state has (table 1-1, R4). -/
inductive EntryState where
  /-- OPEN, with the age and its COMBINE_AGE limit. -/
  | opened (age : Timer)
  /-- SEALED. -/
  | sealed
  /-- ISSUED, with the tag. -/
  | issued (tag : TagNo)
  deriving DecidableEq, Repr

/-- A PQ entry (R2). `id` is the model's name of the entry as a distinct object (R1). -/
structure PqEntry where
  id : Nat
  stream : StreamNo
  line : Line
  bytes : ByteSet
  kind : EntryKind
  state : EntryState
  deriving DecidableEq, Repr

/-- What a fetch left in a PARKED entry (R58, R59): the line, or the fault. -/
inductive Fetched where
  | data (bytes : LineData)
  | fault
  deriving DecidableEq, Repr

/-- The state of a PRT entry with the fields that only that state has (table 3-1, R46). -/
inductive ReadState where
  /-- WAITING, with the hazard set: the ids of the PQ entries it waits for. -/
  | waiting (hazards : List Nat)
  /-- FETCHING, with the tag. -/
  | fetching (tag : TagNo)
  /-- PARKED, with the data or the fault, and the claim timer. -/
  | parked (result : Fetched) (claim : Timer)
  /-- LINGERING, with the data and the linger timer. -/
  | lingering (bytes : LineData) (linger : Timer)
  deriving DecidableEq, Repr

/-- A PRT entry (R45). `id` is the model's name of the entry as a distinct object (R44). -/
structure PrtEntry where
  id : Nat
  stream : StreamNo
  line : Line
  originOffset : Offset
  originCount : Nat
  readAhead : Bool
  state : ReadState
  deriving DecidableEq, Repr

/-- The two classes of requests and candidates on the M-link (R69, R71). -/
inductive LinkClass where
  | write | read
  deriving DecidableEq, Repr

/-- The owner of a BUSY tag (R69). A PQ entry owns a tag of class write, a PRT entry or orphan one of class read. -/
inductive Owner where
  | pqEntry (id : Nat)
  | prtEntry (id : Nat)
  | orphan
  deriving DecidableEq, Repr

/-- A tag record (R69): its state, with the fields that only BUSY has. The class field is that of the owner. -/
inductive Tag where
  | free
  | busy (owner : Owner) (timer : Timer)
  | lapsed
  deriving DecidableEq, Repr

/-- The write treatments (R88). -/
inductive WriteTreatment where
  | post | merge | release | refuse
  deriving DecidableEq, Repr

/-- The read treatments (R88). -/
inductive ReadTreatment where
  | single | line | refuse
  deriving DecidableEq, Repr

/-- A window record (R88). -/
structure Window where
  enabled : Bool
  base : Page
  limit : Page
  writeTreatment : WriteTreatment
  readTreatment : ReadTreatment
  notify : Bool
  deriving DecidableEq, Repr

/-- The order mode of a stream (R25). -/
inductive OrderMode where
  | loose | strict
  deriving DecidableEq, Repr

/-- A stream record: the open-entry field (R5), the order mode (R25), the fault mark (R26) and the hold (R128). -/
structure StreamRecord where
  openEntry : Option Nat
  orderMode : OrderMode
  faultMark : Bool
  hold : Bool
  deriving DecidableEq, Repr

/-- The outcome of a release entry (R36). -/
inductive ReleaseOutcome where
  | released | failed | voided
  deriving DecidableEq, Repr

/-- A notice (R134). -/
structure Notice where
  window : WindowNo
  stream : StreamNo
  line : Line
  outcome : ReleaseOutcome
  deriving DecidableEq, Repr

/-- An error record: its kind with the fields that table 8-1 gives the kind (R138). -/
inductive ErrorRecord where
  | writeFault (stream : StreamNo) (line : Line) (tag : TagNo)
  | writeTimeout (stream : StreamNo) (line : Line) (tag : TagNo)
  | readFault (stream : StreamNo) (line : Line) (tag : TagNo)
  | readTimeout (stream : StreamNo) (line : Line) (tag : TagNo)
  | lateResponse (tag : TagNo)
  | unexpectedResponse (tag : TagNo)
  | unmapped (stream : StreamNo) (line : Line)
  | refused (stream : StreamNo) (line : Line) (window : WindowNo)
  | malformed (stream : StreamNo) (line : Line)
  | readUnclaimed (stream : StreamNo) (line : Line)
  | tagsExhausted
  deriving DecidableEq, Repr

/-- The seven retry reasons (R104), in the order of table 8-2. -/
inductive RetryReason where
  | notOnline | held | queueFull | parked | notReady | lineBusy | tableFull
  deriving DecidableEq, Repr

/-- The answer to a D-bus transaction (R103), with the reason that R104 gives a RETRY and the bytes of DATA. The master sees
no reason; the model keeps it beside the answer. -/
inductive Answer where
  | accept
  | retry (reason : RetryReason)
  | data (bytes : List Byte)
  | abort
  deriving DecidableEq, Repr

/-- A request on the M-link (R67). -/
inductive LinkRequest where
  | writeRequest (tag : TagNo) (line : Line) (bytes : ByteSet)
  | readRequest (tag : TagNo) (line : Line)
  deriving DecidableEq, Repr

/-- The nineteen counters, in the order of table 8-2 (R144). -/
inductive Counter where
  | writesAccepted | writesMerged | entriesRetired | entriesFailed | flagsReleased | flagsVoided | faultMarks
  | readsDelivered | readsUnclaimed | lingerHits | memTimeouts | aborts
  | retriesNotOnline | retriesHeld | retriesQueueFull | retriesParked | retriesNotReady | retriesLineBusy | retriesTableFull
  deriving DecidableEq, Repr

/-- The four timer items, in microseconds (R155). -/
structure TimerItems where
  combineAge : Nat
  claimTime : Nat
  lingerTime : Nat
  memTimeout : Nat
  deriving DecidableEq, Repr

/-- The status codes of table 9-5 (R150, R151); `noneExecuted` is NONE. -/
inductive Status where
  | ok | refused | badItem | badValue | empty | frameError | noneExecuted
  deriving DecidableEq, Repr

/-- A reply (table 9-2); its length field is the number of its data bytes. -/
structure Reply where
  status : Status
  data : List Byte
  deriving DecidableEq, Repr

/-- The frame in progress on the management port (R148, R164). -/
inductive FrameProgress where
  /-- CS is high: no frame is in progress. -/
  | csHigh
  /-- CS is low: the bits received since it fell, first to last, and the reply that the buffer held when it fell, which MISO shifts
  out in the meantime (R148, R151). -/
  | receiving (bits : List Bool) (sending : Reply)
  /-- CS is low and the frame is lost to PORn (R164). The frame was discarded; what is left is what MISO carried before the assertion:
  the leading `cycles` bits of the reply `sending`. A frame begun while PORn was asserted has 0 `cycles`. -/
  | underReset (sending : Reply) (cycles : Nat)
  deriving DecidableEq, Repr

/-- What CS and SCK can do on the management port before a frame ends (R148): CS falls, or one SCK cycle brings a bit of MOSI. The
rise of CS is the end of the frame, which has its own rows. -/
inductive PortEdge where
  | csFall
  | sck (mosi : Bool)
  deriving DecidableEq, Repr

/-- What the board does on the input pins that no row of the table moves, at one REFCLK cycle: the edges on CS and SCK since the cycle
before (R148), and whether REFCLK stops after this cycle (R162). -/
structure CycleInput where
  edges : List PortEdge
  stops : Bool
  deriving DecidableEq, Repr

/-- The three interfaces at which an event waits while REFCLK is stopped (R162). -/
inductive Port where
  | deviceBus | memoryLink | management
  deriving DecidableEq, Repr

/-- An event held at its interface while REFCLK is stopped (R162). -/
inductive HeldEvent where
  /-- A D-bus transaction, a response, or the end of a frame whose CS fell with PORn released, by its command. -/
  | arrival (command : Instr)
  /-- The end, after the release of PORn, of a frame that R164 answers FRAME_ERROR whatever it carries. -/
  | spoiledFrame
  deriving DecidableEq, Repr

/-- What happens on the management port behind a frame end that waits for REFCLK: an edge of a later frame, or its end, by its command
(R148, R162). -/
inductive PortEvent where
  | edge (e : PortEdge)
  | frameEnd (command : Instr)
  deriving DecidableEq, Repr

/-- What MISO carried during a frame: its whole bytes, and the bits shifted out during the SCK cycles of a broken last byte. -/
structure Miso where
  bytes : List Byte
  bits : List Bool
  deriving DecidableEq, Repr

/-- The whole state of the part, its pins and the queue of commands. -/
structure State where
  /-- PORn is asserted (input pin; R163). -/
  por : Bool
  /-- The DRSTn line is asserted (input pin; R116). -/
  drstn : Bool
  /-- The ready signal of the M-link is asserted (input pin; R68). -/
  ready : Bool
  /-- REFCLK is stopped (input pin; R162). -/
  refclkStopped : Bool
  /-- DBI: the bus reset condition is asserted (R116). -/
  busReset : Bool
  /-- OSC: the operating state (R119). -/
  opState : OpState
  /-- PQ: the write entries in acceptance order, oldest first (R1). -/
  pq : List PqEntry
  /-- PRT: the parked-read entries in parking order, oldest first (R44). -/
  prt : List PrtEntry
  /-- MLC: the 16 tag records (R69). -/
  tags : Vector Tag 16
  /-- MLC: the last granted record (R72). -/
  lastGranted : LinkClass
  /-- WT: the 16 window records (R88). -/
  windows : Vector Window 16
  /-- The eight stream records (R5, R25, R26, R128). -/
  streams : Vector StreamRecord 8
  /-- NQ: the notices, oldest first (R134). -/
  nq : List Notice
  /-- NOTICES_LOST, 0–255 (R135). -/
  noticesLost : Nat
  /-- EL: the error records, oldest first (R138). -/
  el : List ErrorRecord
  /-- ERRORS_LOST, 0–255 (R139). -/
  errorsLost : Nat
  /-- The nineteen counters in the order of table 8-2 (R144). -/
  counters : Vector Nat 19
  /-- The four timer items (R155). -/
  timers : TimerItems
  /-- MP: the reply buffer (R151). -/
  reply : Reply
  /-- MP: the frame in progress (R148, R164). -/
  frameInProgress : FrameProgress
  /-- TB: the count of REFCLK cycles, 0–49 (R162). -/
  tbCount : Fin 50
  /-- The events held at the three interfaces while REFCLK is stopped, in the order of their arrival (R162). -/
  held : List HeldEvent
  /-- What CS and SCK have done on the management port behind a frame end that waits, first to last: the port looks at it when that frame
  has been executed (R148, R162). -/
  portWaiting : List PortEvent
  /-- The MODEL's own: what the board does at the REFCLK cycles to come, the next one first; nothing where the list is at its end
  (assumption 23). -/
  cycleInputs : List CycleInput
  /-- D-bus output: the answers given at the latest WRITE, READ, TICK or REFCLK_CYCLE, in order (R103, R117, R162, R163). -/
  answers : List Answer
  /-- M-link output: the requests sent at the latest GRANT, TICK or REFCLK_CYCLE, in order (R67, R73). -/
  requests : List LinkRequest
  /-- Management output: what MISO carried during the frames that ended at the latest frame command, TICK or REFCLK_CYCLE, in order
  (R151, R162, R164). -/
  misos : List Miso
  /-- The MODEL's own: the number that the next PQ or PRT entry is told apart by (R1, R44: an entry is a distinct object). -/
  nextId : Nat
  /-- The MODEL's own: the commands that wait, first in, first out. -/
  pending : List Instr
  deriving DecidableEq, Repr

/-- The power-on record of a window (R100). -/
def Window.powerOn : Window :=
  { enabled := false, base := 0, limit := 0, writeTreatment := .refuse, readTreatment := .refuse, notify := false }

/-- A stream record after power-on reset (R5, R43, R133). -/
def StreamRecord.powerOn : StreamRecord :=
  { openEntry := none, orderMode := .loose, faultMark := false, hold := false }

/-- The power-on values of the timer items (R155). -/
def TimerItems.powerOn : TimerItems :=
  { combineAge := Config.combineAge, claimTime := Config.claimTime, lingerTime := Config.lingerTime,
    memTimeout := Config.memTimeout }

/-- The part right after a power-on reset, at the release of PORn (R163, R23, R43, R66, R86, R100, R118, R127, R133, R146, R161).
DESIGN CHOICE (assumption 1): the input pins, whose levels the spec leaves to the board, stand at DRSTn released, ready deasserted,
REFCLK running and CS high. -/
def State.reset : State :=
  { por := false
    drstn := false
    ready := false
    refclkStopped := false
    busReset := false
    opState := .offline
    pq := []
    prt := []
    tags := Vector.replicate 16 .free
    lastGranted := .write
    windows := Vector.replicate 16 Window.powerOn
    streams := Vector.replicate 8 StreamRecord.powerOn
    nq := []
    noticesLost := 0
    el := []
    errorsLost := 0
    counters := Vector.replicate 19 0
    timers := TimerItems.powerOn
    reply := { status := .noneExecuted, data := [] }
    frameInProgress := .csHigh
    tbCount := 0
    held := []
    portWaiting := []
    cycleInputs := []
    answers := []
    requests := []
    misos := []
    nextId := 0
    pending := [] }

/-- The state with `por` replaced. -/
def State.setPor (s : State) (x : Bool) : State :=
  { s with por := x }

/-- The state with `drstn` replaced. -/
def State.setDrstn (s : State) (x : Bool) : State :=
  { s with drstn := x }

/-- The state with `ready` replaced. -/
def State.setReady (s : State) (x : Bool) : State :=
  { s with ready := x }

/-- The state with `refclkStopped` replaced. -/
def State.setRefclkStopped (s : State) (x : Bool) : State :=
  { s with refclkStopped := x }

/-- The state with `busReset` replaced. -/
def State.setBusReset (s : State) (x : Bool) : State :=
  { s with busReset := x }

/-- The state with `opState` replaced. -/
def State.setOpState (s : State) (x : OpState) : State :=
  { s with opState := x }

/-- The state with `pq` replaced. -/
def State.setPq (s : State) (x : List PqEntry) : State :=
  { s with pq := x }

/-- The state with `prt` replaced. -/
def State.setPrt (s : State) (x : List PrtEntry) : State :=
  { s with prt := x }

/-- The state with `tags` replaced. -/
def State.setTags (s : State) (x : Vector Tag 16) : State :=
  { s with tags := x }

/-- The state with `lastGranted` replaced. -/
def State.setLastGranted (s : State) (x : LinkClass) : State :=
  { s with lastGranted := x }

/-- The state with `windows` replaced. -/
def State.setWindows (s : State) (x : Vector Window 16) : State :=
  { s with windows := x }

/-- The state with `streams` replaced. -/
def State.setStreams (s : State) (x : Vector StreamRecord 8) : State :=
  { s with streams := x }

/-- The state with `nq` replaced. -/
def State.setNq (s : State) (x : List Notice) : State :=
  { s with nq := x }

/-- The state with `noticesLost` replaced. -/
def State.setNoticesLost (s : State) (x : Nat) : State :=
  { s with noticesLost := x }

/-- The state with `el` replaced. -/
def State.setEl (s : State) (x : List ErrorRecord) : State :=
  { s with el := x }

/-- The state with `errorsLost` replaced. -/
def State.setErrorsLost (s : State) (x : Nat) : State :=
  { s with errorsLost := x }

/-- The state with `counters` replaced. -/
def State.setCounters (s : State) (x : Vector Nat 19) : State :=
  { s with counters := x }

/-- The state with `timers` replaced. -/
def State.setTimers (s : State) (x : TimerItems) : State :=
  { s with timers := x }

/-- The state with `reply` replaced. -/
def State.setReply (s : State) (x : Reply) : State :=
  { s with reply := x }

/-- The state with `frameInProgress` replaced. -/
def State.setFrameInProgress (s : State) (x : FrameProgress) : State :=
  { s with frameInProgress := x }

/-- The state with `tbCount` replaced. -/
def State.setTbCount (s : State) (x : Fin 50) : State :=
  { s with tbCount := x }

/-- The state with `held` replaced. -/
def State.setHeld (s : State) (x : List HeldEvent) : State :=
  { s with held := x }

/-- The state with `portWaiting` replaced. -/
def State.setPortWaiting (s : State) (x : List PortEvent) : State :=
  { s with portWaiting := x }

/-- The state with `cycleInputs` replaced. -/
def State.setCycleInputs (s : State) (x : List CycleInput) : State :=
  { s with cycleInputs := x }

/-- The state with `answers` replaced. -/
def State.setAnswers (s : State) (x : List Answer) : State :=
  { s with answers := x }

/-- The state with `requests` replaced. -/
def State.setRequests (s : State) (x : List LinkRequest) : State :=
  { s with requests := x }

/-- The state with `misos` replaced. -/
def State.setMisos (s : State) (x : List Miso) : State :=
  { s with misos := x }

/-- The state with `nextId` replaced. -/
def State.setNextId (s : State) (x : Nat) : State :=
  { s with nextId := x }

/-- The state with `pending` replaced. -/
def State.setPending (s : State) (x : List Instr) : State :=
  { s with pending := x }

end Sys2Proof.Machine
end

