-- ==== Sys2Proof/Machine/Operands.lean ====
section
/-! DEFINITION. What the operands of the commands mean: the offset, line and page of an address, the bytes of a transfer, window
decode, the form of a management frame, and every layout of the item map and the reports. -/

namespace Sys2Proof.Machine

/-! ### D-bus transfers -/

/-- The offset of a transaction: the low 6 bits of its start address (R101). -/
def offsetOf (a : Address) : Offset :=
  a.extractLsb' 0 6

/-- The line of a transaction: its start address with the low 6 bits dropped (R101). -/
def lineOf (a : Address) : Line :=
  a.extractLsb' 6 34

/-- The page of a request: its start address with the low 12 bits dropped (R89). -/
def pageOf (a : Address) : Page :=
  a.extractLsb' 12 28

/-- R107: a transaction is malformed when its byte count is 0 or its offset plus its byte count exceeds 64. -/
def malformed (o : Offset) (n : Nat) : Bool :=
  n == 0 || decide (64 < o.toNat + n)

/-- R3: the offsets a transfer covers, each with the transfer's value. -/
def transferBytes (o : Offset) (data : List Byte) : ByteSet :=
  Vector.ofFn fun i => if o.toNat ≤ i.val then data[i.val - o.toNat]? else none

/-- R3: a merge; at an offset the transfer covers the value becomes the transfer's, at any other the entry keeps its own. -/
def mergeBytes (old new : ByteSet) : ByteSet :=
  Vector.ofFn fun i => (new[i]).or (old[i])

/-- The set holds all 64 offsets (R7, R10). -/
def holdsAll (b : ByteSet) : Bool :=
  b.toList.all Option.isSome

/-- R113: the bytes delivered, for each offset from `o` up to `o + n − 1` the value that the line holds there. -/
def lineSlice (line : LineData) (o : Offset) (n : Nat) : List Byte :=
  (line.toList.drop o.toNat).take n

/-! ### Window decode -/

/-- The streams 0–7, the tags 0–15 and the windows 0–15, in order. -/
def allStreams : List StreamNo :=
  [0, 1, 2, 3, 4, 5, 6, 7]

/-- The tags, lowest number first. -/
def allTags : List TagNo :=
  [0, 1, 2, 3, 4, 5, 6, 7, 8, 9, 10, 11, 12, 13, 14, 15]

/-- The windows, lowest number first. -/
def allWindows : List WindowNo :=
  [0, 1, 2, 3, 4, 5, 6, 7, 8, 9, 10, 11, 12, 13, 14, 15]

/-- R90: the window is enabled and its page range contains the page. -/
def windowContains (w : Window) (p : Page) : Bool :=
  w.enabled && decide (w.base.toNat ≤ p.toNat) && decide (p.toNat ≤ w.limit.toNat)

/-- R90: a request decodes to the lowest-numbered enabled window whose range contains its page; none when unmapped. -/
def decodeWindow (ws : Vector Window 16) (p : Page) : Option WindowNo :=
  allWindows.find? fun w => windowContains ws[w] p

/-! ### Management frames -/

/-- A well-framed request: its command, its item field and its data (table 9-1). -/
structure FrameRequest where
  command : Command
  item : Nat
  data : List Byte
  deriving DecidableEq, Repr

/-- Table 9-3: the fixed data length of a command; none where the length is free, or fixed by the item (WRITE ITEM). -/
def fixedDataLength : Command → Option Nat
  | .hold | .unhold | .clearFault => some 1
  | .nop | .readItem | .writeItem | .start | .stop | .clear | .takeNotice | .takeError | .freeLapsed => none

/-- R149: the request of a well-framed frame; none where one of the five checks answers FRAME_ERROR. -/
def parseFrame (f : Frame) : Option FrameRequest :=
  match f.bytes with
  | c :: hi :: lo :: len :: data =>
    match commandOfCode c with
    | none => none
    | some cmd =>
      if f.extra ≠ 0 then none
      else if Config.maxFrameData < len.toNat then none
      else if data.length ≠ len.toNat then none
      else if (fixedDataLength cmd).any (fun n => n != len.toNat) then none
      else some { command := cmd, item := beNat [hi, lo], data := data }
  | _ => none

/-- R150: bit `i` of a stream set, counted from the least significant, names stream `i`. A set is one data byte. -/
def inStreamSet (data : List Byte) (i : StreamNo) : Bool :=
  match data with
  | b :: _ => b.getLsbD i.val
  | [] => false

/-- Table 9-5: the status codes. -/
def statusCode : Status → Byte
  | .ok => 0x00
  | .refused => 0x01
  | .badItem => 0x02
  | .badValue => 0x03
  | .empty => 0x04
  | .frameError => 0x05
  | .noneExecuted => 0xFF

/-- A reply without data (R150: every status but OK carries none). -/
def bareReply (st : Status) : Reply :=
  { status := st, data := [] }

/-- Table 9-2: the bytes of a reply. -/
def replyBytes (r : Reply) : List Byte :=
  statusCode r.status :: BitVec.ofNat 8 r.data.length :: r.data

/-- R151: byte `k` of MISO while a reply is shifted out: the reply, then 00 Hex. -/
def sentByte (r : Reply) (k : Nat) : Byte :=
  (replyBytes r).getD k 0

/-- A byte of which only the `m` leading bits came through, and 0 after them. -/
def keepLeading (m : Nat) (b : Byte) : Byte :=
  b &&& ~~~((0xFF : Byte) >>> m)

/-- What MISO carries during the first `k` SCK cycles of a byte, most significant bit first (R148). -/
def leadingBits (b : Byte) (k : Nat) : List Bool :=
  (List.range k).map fun i => b.getMsbD i

/-- What MISO carries during a frame of `n` whole bytes and `k` further SCK cycles, by the byte sent in each place. -/
def shiftOut (sent : Nat → Byte) (n k : Nat) : Miso :=
  { bytes := (List.range n).map sent, bits := leadingBits (sent n) k }

/-- R164: the byte sent in place `k` of a frame that PORn interrupted after `cycles` SCK cycles: the reply held, and 0 from the assertion
on. With 0 `cycles` it is 00 Hex in every place. -/
def sentUntilReset (r : Reply) (cycles k : Nat) : Byte :=
  keepLeading (cycles - 8 * k) (sentByte r k)

/-! ### Layouts -/

/-- Table 9-4: the STATE item. -/
def opStateCode : OpState → Byte
  | .offline => 0x00
  | .online => 0x01
  | .draining => 0x02

/-- 00 Hex for no, off, clear or false, 01 Hex for yes, on, set or true (tables 9-6, 9-7). -/
def boolCode (b : Bool) : Byte :=
  if b then 0x01 else 0x00

/-- Table 9-7: the order mode byte. -/
def orderModeCode : OrderMode → Byte
  | .loose => 0x00
  | .strict => 0x01

/-- Table 9-7: the order mode a byte names. -/
def orderModeOfCode (b : Byte) : Option OrderMode :=
  if b = 0x00 then some .loose else if b = 0x01 then some .strict else none

/-- Table 9-6: the write treatment byte. -/
def writeTreatmentCode : WriteTreatment → Byte
  | .post => 0x00
  | .merge => 0x01
  | .release => 0x02
  | .refuse => 0x03

/-- Table 9-6: the write treatment a byte names. -/
def writeTreatmentOfCode (b : Byte) : Option WriteTreatment :=
  if b = 0x00 then some .post
  else if b = 0x01 then some .merge
  else if b = 0x02 then some .release
  else if b = 0x03 then some .refuse
  else none

/-- Table 9-6: the read treatment byte. -/
def readTreatmentCode : ReadTreatment → Byte
  | .single => 0x00
  | .line => 0x01
  | .refuse => 0x02

/-- Table 9-6: the read treatment a byte names. -/
def readTreatmentOfCode (b : Byte) : Option ReadTreatment :=
  if b = 0x00 then some .single else if b = 0x01 then some .line else if b = 0x02 then some .refuse else none

/-- Tables 9-6, 9-7: a yes-or-no byte; none where it is neither 00 Hex nor 01 Hex. -/
def boolOfCode (b : Byte) : Option Bool :=
  if b = 0x00 then some false else if b = 0x01 then some true else none

/-- Table 9-6: the 12 bytes of a window record. -/
def windowBytes (w : Window) : List Byte :=
  [boolCode w.enabled, boolCode w.notify] ++ beBytes 4 w.base.toNat ++ beBytes 4 w.limit.toNat
    ++ [writeTreatmentCode w.writeTreatment, readTreatmentCode w.readTreatment]

/-- R96, R156: the record that 12 bytes carry; none (BAD_VALUE) where a field is outside its range, a page is above
0FFFFFFF Hex, a treatment byte names no treatment, or the limit page is below the base page. -/
def windowOfBytes (data : List Byte) : Option Window :=
  match data with
  | [en, no, b3, b2, b1, b0, l3, l2, l1, l0, wt, rt] =>
    match boolOfCode en, boolOfCode no, writeTreatmentOfCode wt, readTreatmentOfCode rt with
    | some enabled, some notify, some w, some r =>
      let base := beNat [b3, b2, b1, b0]
      let limit := beNat [l3, l2, l1, l0]
      if 0x0FFFFFFF < base ∨ 0x0FFFFFFF < limit ∨ limit < base then none
      else some { enabled := enabled, base := BitVec.ofNat 28 base, limit := BitVec.ofNat 28 limit,
                  writeTreatment := w, readTreatment := r, notify := notify }
    | _, _, _, _ => none
  | _ => none

/-- R155: the range of a timer item. -/
def timerInRange : TimerItem → Nat → Bool
  | .combineAge, v => decide (v ≤ 255)
  | .claimTime, v => decide (1 ≤ v) && decide (v ≤ 4095)
  | .lingerTime, v => decide (1 ≤ v) && decide (v ≤ 1023)
  | .memTimeout, v => decide (10 ≤ v) && decide (v ≤ 10000)

/-- The value in force of a timer item (R155). -/
def timerValue (t : TimerItems) : TimerItem → Nat
  | .combineAge => t.combineAge
  | .claimTime => t.claimTime
  | .lingerTime => t.lingerTime
  | .memTimeout => t.memTimeout

/-- The timer items with one of them replaced (R155). -/
def setTimerValue (t : TimerItems) (i : TimerItem) (v : Nat) : TimerItems :=
  match i with
  | .combineAge => { t with combineAge := v }
  | .claimTime => { t with claimTime := v }
  | .lingerTime => { t with lingerTime := v }
  | .memTimeout => { t with memTimeout := v }

/-- Table 9-8: the outcome byte. -/
def outcomeCode : ReleaseOutcome → Byte
  | .released => 0x00
  | .failed => 0x01
  | .voided => 0x02

/-- Table 9-8: the 8 bytes of a notice. -/
def noticeBytes (n : Notice) : List Byte :=
  [BitVec.ofNat 8 n.window.val, BitVec.ofNat 8 n.stream.val] ++ beBytes 5 n.line.toNat ++ [outcomeCode n.outcome]

/-- R158: the kind byte of an error record. -/
def errorKindCode : ErrorRecord → Byte
  | .writeFault .. => 0x01
  | .writeTimeout .. => 0x02
  | .readFault .. => 0x03
  | .readTimeout .. => 0x04
  | .lateResponse .. => 0x05
  | .unexpectedResponse .. => 0x06
  | .unmapped .. => 0x07
  | .refused .. => 0x08
  | .malformed .. => 0x09
  | .readUnclaimed .. => 0x0A
  | .tagsExhausted => 0x0B

/-- Table 8-1: the stream field of a record. -/
def errorStream : ErrorRecord → Option StreamNo
  | .writeFault s _ _ | .writeTimeout s _ _ | .readFault s _ _ | .readTimeout s _ _ => some s
  | .unmapped s _ | .refused s _ _ | .malformed s _ | .readUnclaimed s _ => some s
  | .lateResponse _ | .unexpectedResponse _ | .tagsExhausted => none

/-- Table 8-1: the line field of a record. -/
def errorLine : ErrorRecord → Option Line
  | .writeFault _ l _ | .writeTimeout _ l _ | .readFault _ l _ | .readTimeout _ l _ => some l
  | .unmapped _ l | .refused _ l _ | .malformed _ l | .readUnclaimed _ l => some l
  | .lateResponse _ | .unexpectedResponse _ | .tagsExhausted => none

/-- Table 8-1: the tag field of a record. -/
def errorTag : ErrorRecord → Option TagNo
  | .writeFault _ _ t | .writeTimeout _ _ t | .readFault _ _ t | .readTimeout _ _ t => some t
  | .lateResponse t | .unexpectedResponse t => some t
  | .unmapped .. | .refused .. | .malformed .. | .readUnclaimed .. | .tagsExhausted => none

/-- Table 8-1: the window field of a record. -/
def errorWindow : ErrorRecord → Option WindowNo
  | .refused _ _ w => some w
  | .writeFault .. | .writeTimeout .. | .readFault .. | .readTimeout .. | .lateResponse .. | .unexpectedResponse ..
  | .unmapped .. | .malformed .. | .readUnclaimed .. | .tagsExhausted => none

/-- Table 9-8: a one-byte field of an error record, 0FF Hex when absent. -/
def fieldByte (v : Option Nat) : Byte :=
  match v with
  | some n => BitVec.ofNat 8 n
  | none => 0xFF

/-- Table 9-8: the 10 bytes of an error record. -/
def errorBytes (r : ErrorRecord) : List Byte :=
  [errorKindCode r, fieldByte ((errorStream r).map Fin.val)]
    ++ (match errorLine r with
        | some l => beBytes 5 l.toNat
        | none => List.replicate 5 0xFF)
    ++ [fieldByte ((errorTag r).map Fin.val), fieldByte ((errorWindow r).map Fin.val), 0x00]

end Sys2Proof.Machine
end

