-- ==== Sys2Proof/Machine/Flags.lean ====
section
/-! DEFINITION. What the spec derives from the contents of the tables: the states of entries, issuability and candidates, the
drained status, the interrupt lines, the tag counts, and which timers are due. -/

namespace Sys2Proof.Machine

/-! ### Timers -/

/-- The timer has reached its captured limit (R162). -/
def Timer.due (t : Timer) : Bool :=
  decide (t.limit ≤ t.count)

/-- R162: at a tick a running timer advances by one; it runs from 0 up to its limit. -/
def Timer.advance (t : Timer) : Timer :=
  if t.count < t.limit then { t with count := t.count + 1 } else t

/-- A timer started now, with its limit captured (R10, R51, R58, R73). -/
def Timer.start (limit : Nat) : Timer :=
  { count := 0, limit := limit }

/-! ### PQ entries -/

/-- The entry is OPEN (R4). -/
def PqEntry.isOpen (e : PqEntry) : Bool :=
  match e.state with
  | .opened _ => true
  | .sealed | .issued _ => false

/-- The entry is SEALED (R4). -/
def PqEntry.isSealed (e : PqEntry) : Bool :=
  match e.state with
  | .sealed => true
  | .opened _ | .issued _ => false

/-- The entry is ISSUED (R4). -/
def PqEntry.isIssued (e : PqEntry) : Bool :=
  match e.state with
  | .issued _ => true
  | .opened _ | .sealed => false

/-- The entry is of kind RELEASE (R2). -/
def PqEntry.isRelease (e : PqEntry) : Bool :=
  match e.kind with
  | .release .. => true
  | .plain _ => false

/-- The mergeable field of a PLAIN entry is yes (R2). -/
def PqEntry.isMergeable (e : PqEntry) : Bool :=
  match e.kind with
  | .plain m => m
  | .release .. => false

/-- The entry is a RELEASE entry with a set void mark (R32). -/
def PqEntry.isVoidMarked (e : PqEntry) : Bool :=
  match e.kind with
  | .release _ _ v => v
  | .plain _ => false

/-- The age of an OPEN entry has reached its limit (R15). -/
def PqEntry.ageDue (e : PqEntry) : Bool :=
  match e.state with
  | .opened age => age.due
  | .sealed | .issued _ => false

/-! ### Issuability -/

/-- R27: an earlier entry `x` holds the entry `e` back: it is on the line of `e`, or of the stream of `e` where the stream is
STRICT or `e` is a RELEASE entry. -/
def holdsBack (streams : Vector StreamRecord 8) (e x : PqEntry) : Bool :=
  x.line == e.line || (x.stream == e.stream && (streams[e.stream].orderMode == .strict || e.isRelease))

/-- The entries accepted before the entry of that id. -/
def earlierThan (pq : List PqEntry) (id : Nat) : List PqEntry :=
  pq.takeWhile fun x => x.id != id

/-- R27: the entry is SEALED and no earlier entry that remains in the PQ holds it back. -/
def issuable (streams : Vector StreamRecord 8) (pq : List PqEntry) (e : PqEntry) : Bool :=
  e.isSealed && !(earlierThan pq e.id).any (holdsBack streams e)

/-- R71: the oldest candidate of the write class: SEALED, issuable and without a set void mark. -/
def writeCandidate (s : State) : Option PqEntry :=
  s.pq.find? fun e => issuable s.streams s.pq e && !e.isVoidMarked

/-! ### PRT entries -/

/-- The entry is LINGERING (R46). -/
def PrtEntry.isLingering (p : PrtEntry) : Bool :=
  match p.state with
  | .lingering .. => true
  | .waiting _ | .fetching _ | .parked .. => false

/-- The claim timer of a PARKED entry has reached its limit (R60). -/
def PrtEntry.claimDue (p : PrtEntry) : Bool :=
  match p.state with
  | .parked _ claim => claim.due
  | .waiting _ | .fetching _ | .lingering .. => false

/-- The linger timer of a LINGERING entry has reached its limit (R61). -/
def PrtEntry.lingerDue (p : PrtEntry) : Bool :=
  match p.state with
  | .lingering _ linger => linger.due
  | .waiting _ | .fetching _ | .parked .. => false

/-- The entry of that stream and line (R44: there is at most one). -/
def prtEntryAt (prt : List PrtEntry) (i : StreamNo) (l : Line) : Option PrtEntry :=
  prt.find? fun p => p.stream == i && p.line == l

/-- R48: a read of stream `i` on line `l` at offset `o` with byte count `n` matches the entry. -/
def PrtEntry.matchesRead (p : PrtEntry) (i : StreamNo) (l : Line) (o : Offset) (n : Nat) : Bool :=
  p.stream == i && p.line == l && (p.readAhead || (p.originOffset == o && p.originCount == n))

/-- R71: the entry is WAITING with an empty hazard set. -/
def PrtEntry.isCandidate (p : PrtEntry) : Bool :=
  match p.state with
  | .waiting hazards => hazards.isEmpty
  | .fetching _ | .parked .. | .lingering .. => false

/-- R71: the oldest candidate of the read class. -/
def readCandidate (s : State) : Option PrtEntry :=
  s.prt.find? PrtEntry.isCandidate

/-! ### Tags -/

/-- The tag is FREE (R69). -/
def Tag.isFree : Tag → Bool
  | .free => true
  | .busy .. | .lapsed => false

/-- The tag is BUSY (R69). -/
def Tag.isBusy : Tag → Bool
  | .busy .. => true
  | .free | .lapsed => false

/-- The tag is LAPSED (R69). -/
def Tag.isLapsed : Tag → Bool
  | .lapsed => true
  | .free | .busy .. => false

/-- The time-out timer of a BUSY tag has reached its limit (R81). -/
def Tag.due : Tag → Bool
  | .busy _ timer => timer.due
  | .free | .lapsed => false

/-- R69: the class of a BUSY tag: write when a PQ entry owns it, read when a PRT entry or orphan does. -/
def Owner.linkClass : Owner → LinkClass
  | .pqEntry _ => .write
  | .prtEntry _ | .orphan => .read

/-- R70: the lowest-numbered FREE tag. -/
def lowestFreeTag (tags : Vector Tag 16) : Option TagNo :=
  allTags.find? fun t => tags[t].isFree

/-- R69: the number of tags for which a test holds. -/
def tagCount (tags : Vector Tag 16) (p : Tag → Bool) : Nat :=
  allTags.countP fun t => p tags[t]

/-! ### Derived status and lines -/

/-- R131: the stream has no entry in the PQ. -/
def drained (s : State) (i : StreamNo) : Bool :=
  !s.pq.any fun e => e.stream == i

/-- R137: EVT_INT is asserted while the NQ holds one or more notices. -/
def evtInt (s : State) : Bool :=
  !s.nq.isEmpty

/-- R142: ERR_INT is asserted while the EL holds one or more records or ERRORS_LOST is not 0. -/
def errInt (s : State) : Bool :=
  !s.el.isEmpty || s.errorsLost != 0

/-! ### Held events -/

/-- The interface at which the event of a command arrives, for the three kinds that R162 names: a D-bus transaction, a response on the
M-link, and the end of a management frame. -/
def portOfInstr : Instr → Option Port
  | .write .. | .read .. => some .deviceBus
  | .writeResponse .. | .readResponse .. => some .memoryLink
  | .nop _ | .readItem _ | .writeItem _ | .writeItemWindow .. | .writeItemTimer .. | .writeItemOrderMode .. | .start _ | .stop _
  | .clear _ | .hold _ | .unhold _ | .clearFault _ | .takeNotice _ | .takeErrorRecordForm _ | .takeErrorLostCountForm _
  | .freeLapsed _ => some .management
  | .grant | .readyAssertion | .readyDeassertion | .tick | .combineAgeExpiry .. | .claimTimeOut .. | .lingerTimerExpiry ..
  | .memoryTimeOut .. | .dBusReset | .releaseOfDrstn | .powerOnReset | .releaseOfPorn .. | .refclkCycle => none

/-- The interface at which a held event waits. -/
def HeldEvent.port : HeldEvent → Option Port
  | .arrival c => portOfInstr c
  | .spoiledFrame => some .management

/-- R162: an event of the interface is held. -/
def State.waitsAt (s : State) (p : Port) : Bool :=
  s.held.any fun h => h.port == some p

/-! ### Grants -/

/-- R73: ready is asserted, a tag is FREE and a candidate waits, with PORn released (R163). -/
def grantDue (s : State) : Bool :=
  !s.por && s.ready && (lowestFreeTag s.tags).isSome && ((writeCandidate s).isSome || (readCandidate s).isSome)

end Sys2Proof.Machine
end

