-- ==== Sys2Proof/Machine/Ops.lean ====
section
/-! DEFINITION. The shared operations on the tables, queues, counters and records: what several commands do, each said once. -/

namespace Sys2Proof.Machine

/-! ### Counters, error log, notice queue -/

/-- A count that goes up by one and stays at its maximum. -/
def saturatingSucc (max n : Nat) : Nat :=
  if n < max then n + 1 else n

/-- The place of a counter in table 8-2. -/
def Counter.index : Counter → Fin 19
  | .writesAccepted => 0
  | .writesMerged => 1
  | .entriesRetired => 2
  | .entriesFailed => 3
  | .flagsReleased => 4
  | .flagsVoided => 5
  | .faultMarks => 6
  | .readsDelivered => 7
  | .readsUnclaimed => 8
  | .lingerHits => 9
  | .memTimeouts => 10
  | .aborts => 11
  | .retriesNotOnline => 12
  | .retriesHeld => 13
  | .retriesQueueFull => 14
  | .retriesParked => 15
  | .retriesNotReady => 16
  | .retriesLineBusy => 17
  | .retriesTableFull => 18

/-- The value of a counter. -/
def State.counter (s : State) (c : Counter) : Nat :=
  s.counters[c.index]

/-- R144: the counter goes up by one and stays at its maximum. -/
def bump (c : Counter) (s : State) : State :=
  s.setCounters (s.counters.set c.index (saturatingSucc Config.counterMax (s.counter c)))

/-- R139: a record is offered to the EL; it joins at the tail, or is lost and counted. -/
def offerError (r : ErrorRecord) (s : State) : State :=
  if s.el.length < Config.elCapacity then s.setEl (s.el ++ [r])
  else s.setErrorsLost (saturatingSucc Config.lostMax s.errorsLost)

/-- R135: a notice is offered to the NQ; it joins at the tail, or is lost and counted. -/
def offerNotice (n : Notice) (s : State) : State :=
  if s.nq.length < Config.nqCapacity then s.setNq (s.nq ++ [n])
  else s.setNoticesLost (saturatingSucc Config.lostMax s.noticesLost)

/-- R37: a RELEASE entry whose notify field is on offers a notice as it leaves. -/
def noticeOfLeaving (e : PqEntry) (o : ReleaseOutcome) (s : State) : State :=
  match e.kind with
  | .release w true _ => offerNotice { window := w, stream := e.stream, line := e.line, outcome := o } s
  | .release _ false _ | .plain _ => s

/-! ### Answers on the D-bus -/

/-- R104: the retry counter of a reason. -/
def RetryReason.counter : RetryReason → Counter
  | .notOnline => .retriesNotOnline
  | .held => .retriesHeld
  | .queueFull => .retriesQueueFull
  | .parked => .retriesParked
  | .notReady => .retriesNotReady
  | .lineBusy => .retriesLineBusy
  | .tableFull => .retriesTableFull

/-- R103: an answer is given on the bus, after those that the same event of the table gave before it. -/
def giveAnswer (a : Answer) (s : State) : State :=
  s.setAnswers (s.answers ++ [a])

/-- R115: ACCEPT, counted in WRITES_ACCEPTED. -/
def answerAccept (s : State) : State :=
  bump .writesAccepted (giveAnswer .accept s)

/-- R115: RETRY with a reason, counted in its retry counter. -/
def answerRetry (r : RetryReason) (s : State) : State :=
  bump r.counter (giveAnswer (.retry r) s)

/-- R115: DATA, counted in READS_DELIVERED. -/
def answerData (bytes : List Byte) (s : State) : State :=
  bump .readsDelivered (giveAnswer (.data bytes) s)

/-- R114, R115: ABORT, counted in ABORTS. -/
def answerAbort (s : State) : State :=
  bump .aborts (giveAnswer .abort s)

/-! ### Stream records -/

/-- The record of a stream replaced. -/
def setStream (i : StreamNo) (r : StreamRecord) (s : State) : State :=
  s.setStreams (s.streams.set i r)

/-- The records of all streams changed, each by its number. -/
def mapStreams (f : StreamNo → StreamRecord → StreamRecord) (s : State) : State :=
  s.setStreams (Vector.ofFn fun i => f i s.streams[i])

/-- R5: the open-entry field of a stream set. -/
def setOpenEntry (i : StreamNo) (ref : Option Nat) (s : State) : State :=
  setStream i { s.streams[i] with openEntry := ref } s

/-! ### Sealing -/

/-- R14: an OPEN entry becomes SEALED and its age is dropped; an entry in another state is not changed. -/
def PqEntry.toSealed (e : PqEntry) : PqEntry :=
  match e.state with
  | .opened _ => { e with state := .sealed }
  | .sealed | .issued _ => e

/-- R14: the OPEN entries that a cause names are sealed, and the open-entry fields of their streams become none. -/
def sealWhere (cause : PqEntry → Bool) (s : State) : State :=
  mapStreams
    (fun i r => if s.pq.any (fun e => e.isOpen && cause e && e.stream == i) then { r with openEntry := none } else r)
    (s.setPq (s.pq.map fun e => if cause e then e.toSealed else e))

/-- R9, R17: the entry that the stream's open-entry field refers to is sealed, if any. -/
def sealStreamEntry (i : StreamNo) (s : State) : State :=
  sealWhere (fun e => s.streams[i].openEntry == some e.id) s

/-- R9: an entry of another stream that is OPEN on the line is sealed. -/
def sealOthersOnLine (i : StreamNo) (l : Line) (s : State) : State :=
  sealWhere (fun e => e.line == l && e.stream != i) s

/-- R17, R24: every OPEN entry is sealed and every open-entry field becomes none. -/
def sealAll (s : State) : State :=
  mapStreams (fun _ r => { r with openEntry := none }) (s.setPq (s.pq.map PqEntry.toSealed))

/-! ### Drain -/

/-- R123: in DRAINING, with the PQ and the PRT both empty, the state becomes OFFLINE. -/
def checkDrain (s : State) : State :=
  if s.opState = .draining ∧ s.pq = [] ∧ s.prt = [] then s.setOpState .offline else s

/-! ### PRT entries -/

/-- The PRT entry of that id changed. -/
def updatePrt (id : Nat) (f : PrtEntry → PrtEntry) (s : State) : State :=
  s.setPrt (s.prt.map fun p => if p.id = id then f p else p)

/-- R63: a PRT entry is freed; with it go its timer and hazard set, and a drain may complete. -/
def freePrt (id : Nat) (s : State) : State :=
  checkDrain (s.setPrt (s.prt.eraseP fun p => p.id == id))

/-- R57: entries that left the PQ are removed from the hazard set of a WAITING entry. -/
def PrtEntry.withoutHazards (gone : List Nat) (p : PrtEntry) : PrtEntry :=
  match p.state with
  | .waiting hazards => { p with state := .waiting (hazards.filter fun h => !gone.contains h) }
  | .fetching _ | .parked .. | .lingering .. => p

/-- R62: what an accepted write to its line does to a PRT entry that it does not free. -/
def PrtEntry.metByWrite (p : PrtEntry) : PrtEntry :=
  match p.state with
  | .fetching _ | .parked .. => { p with readAhead := false }
  | .waiting _ | .lingering .. => p

/-- R62: an accepted write to line `l` frees the LINGERING entries on `l` and clears read-ahead on the FETCHING and PARKED ones. -/
def writeMeetsPrt (l : Line) (s : State) : State :=
  s.setPrt ((s.prt.filter fun p => !(p.line == l && p.isLingering)).map fun p => if p.line = l then p.metByWrite else p)

/-- R58, R59: a fetch has ended; the entry becomes PARKED and its claim timer starts. -/
def parkFetched (id : Nat) (r : Fetched) (s : State) : State :=
  updatePrt id (fun p => { p with state := .parked r (Timer.start s.timers.claimTime) }) s

/-! ### PQ entries that leave -/

/-- The PQ entry of that id, if it is in the PQ. -/
def findPq (pq : List PqEntry) (id : Nat) : Option PqEntry :=
  pq.find? fun e => e.id == id

/-- R20: an entry leaves the PQ and every hazard set that holds it. -/
def leavePq (id : Nat) (s : State) : State :=
  (s.setPq (s.pq.eraseP fun e => e.id == id)).setPrt (s.prt.map (PrtEntry.withoutHazards [id]))

/-- R34, R38: the entries judged in acceptance order: each SEALED RELEASE entry with a set void mark that no remaining earlier
entry holds back leaves. Answers the entries that remain and those voided, both in acceptance order; `kept` are the earlier
entries that remain. -/
def voidScan (streams : Vector StreamRecord 8) (kept : List PqEntry) : List PqEntry → List PqEntry × List PqEntry
  | [] => (kept, [])
  | e :: rest =>
    if e.isSealed && e.isVoidMarked && !kept.any (holdsBack streams e) then
      let r := voidScan streams kept rest
      (r.1, e :: r.2)
    else voidScan streams (kept ++ [e]) rest

/-- R36: a voided entry is counted in FLAGS_VOIDED and its notice is offered. -/
def noteVoided (s : State) (e : PqEntry) : State :=
  noticeOfLeaving e .voided (bump .flagsVoided s)

/-- R34: every SEALED, issuable RELEASE entry with a set void mark leaves voided, and so on along the chain. -/
def voidPass (s : State) : State :=
  let r := voidScan s.streams [] s.pq
  r.2.foldl noteVoided ((s.setPq r.1).setPrt (s.prt.map (PrtEntry.withoutHazards (r.2.map PqEntry.id))))

/-- R20: after an entry has left, the entries it held back are judged again and a drain may complete. -/
def afterLeaving (s : State) : State :=
  checkDrain (voidPass s)

/-- R36: the counter of a RELEASE entry with outcome RELEASED. -/
def countReleased (e : PqEntry) (s : State) : State :=
  if e.isRelease then bump .flagsReleased s else s

/-- R21, R36: an entry leaves the PQ retired. -/
def retireEntry (e : PqEntry) (s : State) : State :=
  afterLeaving (noticeOfLeaving e .released (countReleased e (bump .entriesRetired (leavePq e.id s))))

/-- R32: the void mark of a SEALED RELEASE entry of the stream is set. -/
def PqEntry.voidMarkedBy (i : StreamNo) (e : PqEntry) : PqEntry :=
  match e.kind with
  | .release w n _ => if e.stream = i ∧ e.isSealed then { e with kind := .release w n true } else e
  | .plain _ => e

/-- R31, R32: the fault mark of the stream is set, FAULT_MARKS goes up, and the void marks are spread. -/
def markFault (i : StreamNo) (s : State) : State :=
  bump .faultMarks ((setStream i { s.streams[i] with faultMark := true } s).setPq (s.pq.map (PqEntry.voidMarkedBy i)))

/-- R21, R31: an entry leaves the PQ failed. -/
def failEntry (e : PqEntry) (s : State) : State :=
  afterLeaving (noticeOfLeaving e .failed (markFault e.stream (bump .entriesFailed (leavePq e.id s))))

/-! ### Tags -/

/-- A tag record replaced. -/
def setTag (t : TagNo) (r : Tag) (s : State) : State :=
  s.setTags (s.tags.set t r)

/-- R78: a response for a LAPSED tag is dropped, the tag becomes FREE, and a LATE_RESPONSE record is made. -/
def lateResponse (t : TagNo) (s : State) : State :=
  offerError (.lateResponse t) (setTag t .free s)

/-- R79, R80: an unexpected response is dropped with its record; the tag is not changed. -/
def unexpectedResponse (t : TagNo) (s : State) : State :=
  offerError (.unexpectedResponse t) s

/-! ### Timer expiries -/

/-- R15: the age of the stream's OPEN entry has reached its limit, and the entry is sealed. -/
def expireCombineAge (i : StreamNo) (s : State) : State :=
  sealWhere (fun e => e.stream == i && e.ageDue) s

/-- R60: the claim timer of the PARKED entry of the stream and line has reached its limit: the entry is freed with its record. -/
def expireClaim (i : StreamNo) (l : Line) (s : State) : State :=
  match prtEntryAt s.prt i l with
  | some p =>
    if p.claimDue then freePrt p.id (bump .readsUnclaimed (offerError (.readUnclaimed p.stream p.line) s)) else s
  | none => s

/-- R61: the linger timer of the LINGERING entry of the stream and line has reached its limit: the entry is freed. -/
def expireLinger (i : StreamNo) (l : Line) (s : State) : State :=
  match prtEntryAt s.prt i l with
  | some p => if p.lingerDue then freePrt p.id s else s
  | none => s

/-- R81: the owner of a lapsed tag is told. -/
def tellOwnerLapsed (t : TagNo) (o : Owner) (s : State) : State :=
  match o with
  | .pqEntry id =>
    match findPq s.pq id with
    | some e => failEntry e (offerError (.writeTimeout e.stream e.line t) s)
    | none => s
  | .prtEntry id =>
    match s.prt.find? fun p => p.id == id with
    | some p => parkFetched id .fault (offerError (.readTimeout p.stream p.line t) s)
    | none => s
  | .orphan => s

/-- R83: a time-out that raises the count of LAPSED tags to 16 makes a TAGS_EXHAUSTED record. -/
def recordExhausted (s : State) : State :=
  if tagCount s.tags Tag.isLapsed = 16 then offerError .tagsExhausted s else s

/-- R81: the time-out timer of a BUSY tag has reached its limit: the tag becomes LAPSED and its owner is told. -/
def expireMemory (t : TagNo) (s : State) : State :=
  match s.tags[t] with
  | .busy o timer =>
    if timer.due then recordExhausted (tellOwnerLapsed t o (bump .memTimeouts (setTag t .lapsed s))) else s
  | .free | .lapsed => s

/-- DESIGN CHOICE (assumption 4): a timer expires at its tick (R162), so an expiry that is due and that no command has taken yet
is taken before the next REFCLK cycle counts: the tags' in number order, then the combine ages, the claims and the lingers. -/
def takeDueExpiries (s : State) : State :=
  let s1 := allTags.foldl (fun acc t => expireMemory t acc) s
  let s2 := allStreams.foldl (fun acc i => expireCombineAge i acc) s1
  let s3 := s2.prt.foldl (fun acc p => expireClaim p.stream p.line acc) s2
  s3.prt.foldl (fun acc p => expireLinger p.stream p.line acc) s3

/-- R162: the combine age timer of an OPEN entry advances. -/
def PqEntry.advanced (e : PqEntry) : PqEntry :=
  match e.state with
  | .opened age => { e with state := .opened age.advance }
  | .sealed | .issued _ => e

/-- R162: the claim or linger timer of a PRT entry advances. -/
def PrtEntry.advanced (p : PrtEntry) : PrtEntry :=
  match p.state with
  | .parked r claim => { p with state := .parked r claim.advance }
  | .lingering d linger => { p with state := .lingering d linger.advance }
  | .waiting _ | .fetching _ => p

/-- R162: the time-out timer of a BUSY tag advances. -/
def Tag.advanced : Tag → Tag
  | .busy o timer => .busy o timer.advance
  | .free => .free
  | .lapsed => .lapsed

/-- R162: one tick; every running timer in the part advances by one. -/
def advanceTimers (s : State) : State :=
  ((s.setPq (s.pq.map PqEntry.advanced)).setPrt (s.prt.map PrtEntry.advanced)).setTags
    (Vector.ofFn fun t => s.tags[t].advanced)

/-! ### Outputs -/

/-- The outputs recorded of an earlier event of the table are no more (assumption 9). -/
def clearOutputs (s : State) : State :=
  ((s.setAnswers []).setRequests []).setMisos []

/-! ### Held events -/

/-- R162: an event is held at its interface, behind those that arrived before it. -/
def holdEvent (h : HeldEvent) (s : State) : State :=
  s.setHeld (s.held ++ [h])

/-! ### The frame in progress -/

/-- R148, R151, R164: what an edge on CS or SCK does to the frame in progress, with PORn asserted or not and with the reply then held. At
the fall of CS the frame starts empty; an SCK cycle adds a bit to it. Under PORn nothing is received. While CS is high SCK is not looked
at, and CS cannot fall while it is low. -/
def FrameProgress.edge (por : Bool) (held : Reply) (f : FrameProgress) (e : PortEdge) : FrameProgress :=
  match f, e with
  | .csHigh, .csFall => if por then .underReset held 0 else .receiving [] held
  | .csHigh, .sck _ => .csHigh
  | .receiving bits sending, .csFall => .receiving bits sending
  | .receiving bits sending, .sck b => .receiving (bits ++ [b]) sending
  | .underReset sending cycles, .csFall => .underReset sending cycles
  | .underReset sending cycles, .sck _ => .underReset sending cycles

/-- R148: the edges that happened on the management port, in order. -/
def portEdges (edges : List PortEdge) (s : State) : State :=
  s.setFrameInProgress (edges.foldl (FrameProgress.edge s.por s.reply) s.frameInProgress)

/-- R148, R162: what happens on the port behind a frame end that waits is not looked at yet. -/
def waitAtPort (events : List PortEvent) (s : State) : State :=
  s.setPortWaiting (s.portWaiting ++ events)

/-- R148: edges arrive at the management port. No bit is sampled before the execution of an earlier frame is complete, so behind a frame end
that waits (R162) the edges wait. -/
def edgesArrive (edges : List PortEdge) (s : State) : State :=
  if !s.por && s.waitsAt .management then waitAtPort (edges.map .edge) s else portEdges edges s

/-- The level of CS after what waits on the port: low after a fall, high after the end of a frame, which the waiting events follow. -/
def csLowAfter (events : List PortEvent) : Bool :=
  events.foldl
    (fun low e =>
      match e with
      | .edge .csFall => true
      | .edge (.sck _) => low
      | .frameEnd _ => false)
    false

/-- R163, R164: the assertion of PORn discards the frame in progress; what MISO has carried of the reply stays shifted out. -/
def FrameProgress.interrupted : FrameProgress → FrameProgress
  | .csHigh => .csHigh
  | .receiving bits sending => .underReset sending bits.length
  | .underReset sending cycles => .underReset sending cycles

/-- R163, R164: the frame in progress after the assertion of PORn. Of a frame whose fall of CS waited behind a held frame end nothing has been
shifted out (assumption 24). -/
def State.frameAtAssertion (s : State) : FrameProgress :=
  if csLowAfter s.portWaiting then .underReset s.reply 0 else s.frameInProgress.interrupted

/-- R151, R164: what MISO has carried during a frame that ends now: the reply held at the fall of CS, up to the assertion of PORn where
that came in between. A frame whose fall was not announced fell just before (assumption 10). -/
def misoAtEnd (s : State) (f : Frame) : Miso :=
  match s.frameInProgress with
  | .csHigh => if s.por then shiftOut (sentUntilReset s.reply 0) f.bytes.length f.extra.val
    else shiftOut (sentByte s.reply) f.bytes.length f.extra.val
  | .receiving _ sending => shiftOut (sentByte sending) f.bytes.length f.extra.val
  | .underReset sending cycles => shiftOut (sentUntilReset sending cycles) f.bytes.length f.extra.val

end Sys2Proof.Machine
end

