-- ==== Sys2Proof/Machine/DeviceBus.lean ====
section
/-! DEFINITION. The D-bus transactions: WRITE (chapters 6, 5, 1, 2) and READ (chapters 6, 5, 3). -/

namespace Sys2Proof.Machine

/-! ### WRITE -/

/-- R7: the entry that a MERGE write of stream `i` to line `l` is merged into: the one that the stream's open-entry field refers
to, when it is on `l` and mergeable. -/
def mergeTarget (i : StreamNo) (l : Line) (s : State) : Option PqEntry :=
  match s.streams[i].openEntry with
  | none => none
  | some id =>
    match findPq s.pq id with
    | none => none
    | some e => if e.line = l ∧ e.isMergeable then some e else none

/-- R7: the transfer is merged into the entry, which is sealed if it then holds all 64 offsets. -/
def mergeInto (e : PqEntry) (bytes : ByteSet) (s : State) : State :=
  let merged := mergeBytes e.bytes bytes
  let s1 := bump .writesMerged (s.setPq (s.pq.map fun x => if x.id = e.id then { x with bytes := merged } else x))
  if holdsAll merged then sealWhere (fun x => x.id == e.id) s1 else s1

/-- A new entry joins the PQ at the tail (R1). -/
def appendEntry (i : StreamNo) (l : Line) (bytes : ByteSet) (kind : EntryKind) (state : EntryState) (s : State) : State :=
  (s.setPq (s.pq ++ [{ id := s.nextId, stream := i, line := l, bytes := bytes, kind := kind, state := state }])).setNextId
    (s.nextId + 1)

/-- R9: the seals made before a new entry of stream `i` on line `l` is appended. -/
def sealsBeforeAppend (i : StreamNo) (l : Line) (s : State) : State :=
  sealOthersOnLine i l (sealStreamEntry i s)

/-- R10: a MERGE write that was not merged makes an entry that is OPEN, or SEALED at once. -/
def appendMerge (i : StreamNo) (l : Line) (bytes : ByteSet) (s : State) : State :=
  if s.timers.combineAge = 0 ∨ holdsAll bytes then
    setOpenEntry i none (appendEntry i l bytes (.plain true) .sealed s)
  else
    setOpenEntry i (some s.nextId)
      (appendEntry i l bytes (.plain true) (.opened (Timer.start s.timers.combineAge)) s)

/-- R10, R11, R12: the new entry of a write that needs one, by its treatment. A REFUSE write does not reach the PQ (R92). -/
def appendFor (tr : WriteTreatment) (i : StreamNo) (l : Line) (bytes : ByteSet) (w : WindowNo) (notify : Bool) (s : State) :
    State :=
  match tr with
  | .merge => appendMerge i l bytes s
  | .post => appendEntry i l bytes (.plain false) .sealed s
  | .release => appendEntry i l bytes (.release w notify s.streams[i].faultMark) .sealed s
  | .refuse => s

/-- R8 to R13, R34, R111: a write that needs a new entry. -/
def postNewEntry (tr : WriteTreatment) (i : StreamNo) (l : Line) (bytes : ByteSet) (w : WindowNo) (notify : Bool) (s : State) :
    State :=
  if s.pq.length < Config.pqCapacity then
    answerAccept (voidPass (writeMeetsPrt l (appendFor tr i l bytes w notify (sealsBeforeAppend i l s))))
  else answerRetry .queueFull s

/-- R6, R111: the PQ's handling of a write that has passed every check. -/
def postWrite (tr : WriteTreatment) (i : StreamNo) (l : Line) (bytes : ByteSet) (w : WindowNo) (notify : Bool) (s : State) :
    State :=
  match tr, mergeTarget i l s with
  | .merge, some e => answerAccept (writeMeetsPrt l (mergeInto e bytes s))
  | _, _ => postNewEntry tr i l bytes w notify s

/-- R109, R110: the operating state and hold checks before a transaction's work. -/
def checkStateAndHold (i : StreamNo) (work : State → State) (s : State) : State :=
  if s.opState ≠ .online then answerRetry .notOnline s
  else if s.streams[i].hold then answerRetry .held s
  else work s

/-- R105: a WRITE that is taken is checked for form, decode, operating state and hold, and then handed to the PQ. -/
def writeTransaction (i : StreamNo) (addr : Address) (data : List Byte) (s : State) : State :=
  if malformed (offsetOf addr) data.length then answerAbort (offerError (.malformed i (lineOf addr)) s)
  else
    match decodeWindow s.windows (pageOf addr) with
    | none => answerAbort (offerError (.unmapped i (lineOf addr)) s)
    | some w =>
      if s.windows[w].writeTreatment = .refuse then answerAbort (offerError (.refused i (lineOf addr) w) s)
      else
        checkStateAndHold i
          (postWrite s.windows[w].writeTreatment i (lineOf addr) (transferBytes (offsetOf addr) data) w s.windows[w].notify) s

/-- R162: a D-bus transaction that arrives while REFCLK is stopped waits on the bus for its answer; one that arrives under PORn
or the bus reset condition is not taken at all (R117, R163). -/
def arriveAtDeviceBus (c : Instr) (take : State → State) (s : State) : State :=
  if s.por || s.busReset then s
  else if s.refclkStopped then holdEvent (.arrival c) s
  else take s

/-- WRITE (R105). -/
def execWrite (i : StreamNo) (addr : Address) (data : List Byte) (s : State) : Host.Outcome State Fault Refusal :=
  .next (arriveAtDeviceBus (.write i addr data) (writeTransaction i addr data) (s.setAnswers []))

/-! ### READ -/

/-- R51: a PARKED entry delivers; it becomes LINGERING when its read-ahead is set and the part is ONLINE, and is freed otherwise. -/
def claimParked (p : PrtEntry) (line : LineData) (o : Offset) (n : Nat) (s : State) : State :=
  answerData (lineSlice line o n)
    (if p.readAhead ∧ s.opState = .online then
      updatePrt p.id (fun q => { q with state := .lingering line (Timer.start s.timers.lingerTime) }) s
    else freePrt p.id s)

/-- R49 to R52: the answer to a read that matches an entry. -/
def serveMatch (p : PrtEntry) (o : Offset) (n : Nat) (s : State) : State :=
  match p.state with
  | .waiting _ => answerRetry .notReady s
  | .fetching _ => answerRetry .notReady s
  | .parked .fault _ => answerAbort (freePrt p.id s)
  | .parked (.data line) _ => claimParked p line o n s
  | .lingering line _ => bump .lingerHits (answerData (lineSlice line o n) s)

/-- R56: a PQ entry that a new read of stream `i` on line `l` waits for. -/
def isHazard (streams : Vector StreamRecord 8) (i : StreamNo) (l : Line) (e : PqEntry) : Bool :=
  e.line == l || (streams[i].orderMode == .strict && e.stream == i)

/-- R55, R56, R16: a new WAITING entry with its hazard set, whose OPEN entries are sealed. -/
def parkRead (rt : ReadTreatment) (i : StreamNo) (l : Line) (o : Offset) (n : Nat) (s : State) : State :=
  let p : PrtEntry :=
    { id := s.nextId, stream := i, line := l, originOffset := o, originCount := n, readAhead := rt == .line,
      state := .waiting ((s.pq.filter (isHazard s.streams i l)).map PqEntry.id) }
  answerRetry .parked (sealWhere (isHazard s.streams i l) ((s.setPrt (s.prt ++ [p])).setNextId (s.nextId + 1)))

/-- R53, R54: a park request: LINE_BUSY, or room in the table, if need be by the eviction of the oldest LINGERING entry, or
TABLE_FULL. -/
def parkRequest (rt : ReadTreatment) (i : StreamNo) (l : Line) (o : Offset) (n : Nat) (s : State) : State :=
  if (prtEntryAt s.prt i l).isSome then answerRetry .lineBusy s
  else if s.prt.length < Config.prtCapacity then parkRead rt i l o n s
  else
    match s.prt.find? PrtEntry.isLingering with
    | some p => parkRead rt i l o n (freePrt p.id s)
    | none => answerRetry .tableFull s

/-- R106: a READ that is taken is checked for form and decode, matched in the PRT, or checked for state and hold and parked. -/
def readTransaction (i : StreamNo) (addr : Address) (n : Nat) (s : State) : State :=
  if malformed (offsetOf addr) n then answerAbort (offerError (.malformed i (lineOf addr)) s)
  else
    match decodeWindow s.windows (pageOf addr) with
    | none => answerAbort (offerError (.unmapped i (lineOf addr)) s)
    | some w =>
      if s.windows[w].readTreatment = .refuse then answerAbort (offerError (.refused i (lineOf addr) w) s)
      else
        match s.prt.find? fun p => p.matchesRead i (lineOf addr) (offsetOf addr) n with
        | some p => serveMatch p (offsetOf addr) n s
        | none =>
          checkStateAndHold i (parkRequest s.windows[w].readTreatment i (lineOf addr) (offsetOf addr) n) s

/-- READ (R106). -/
def execRead (i : StreamNo) (addr : Address) (n : Nat) (s : State) : Host.Outcome State Fault Refusal :=
  .next (arriveAtDeviceBus (.read i addr n) (readTransaction i addr n) (s.setAnswers []))

end Sys2Proof.Machine
end

