-- ==== Sys2Proof/Machine/Items.lean ====
section
/-! DEFINITION. What the item commands of the management port do: NOP, READ ITEM and the WRITE ITEM rows (chapter 9, R41, R96, R155). -/

namespace Sys2Proof.Machine

/-- R154: the read value of an item, in its read layout. -/
def itemValue (s : State) : Item → List Byte
  | .id => Config.idBytes
  | .state => [opStateCode s.opState]
  | .pqCount => [BitVec.ofNat 8 s.pq.length]
  | .prtCount => [BitVec.ofNat 8 s.prt.length]
  | .tagCounts =>
    [BitVec.ofNat 8 (tagCount s.tags Tag.isFree), BitVec.ofNat 8 (tagCount s.tags Tag.isBusy),
     BitVec.ofNat 8 (tagCount s.tags Tag.isLapsed)]
  | .nqCount => [BitVec.ofNat 8 s.nq.length]
  | .noticesLost => [BitVec.ofNat 8 s.noticesLost]
  | .elCount => [BitVec.ofNat 8 s.el.length]
  | .errorsLost => [BitVec.ofNat 8 s.errorsLost]
  | .timer t => beBytes 2 (timerValue s.timers t)
  | .window w => windowBytes s.windows[w]
  | .stream i =>
    [orderModeCode s.streams[i].orderMode, boolCode s.streams[i].hold, boolCode s.streams[i].faultMark, boolCode (drained s i)]
  | .counter c => beBytes 4 s.counters[c]

/-- R151: a well-framed NOP executes nothing, and the buffer takes NONE. -/
def nopAction (_r : FrameRequest) (s : State) : State × Reply :=
  (s, bareReply .noneExecuted)

/-- R152: READ ITEM returns the item's value and changes nothing; an unknown number gives BAD_ITEM (R150, step 1). -/
def readItemAction (r : FrameRequest) (s : State) : State × Reply :=
  match itemOfNumber r.item with
  | none => (s, bareReply .badItem)
  | some it => (s, { status := .ok, data := itemValue s it })

/-- R155: a WRITE ITEM to a timer item: its data length (R150, step 2), then its range, then the value is taken. -/
def writeTimer (i : TimerItem) (data : List Byte) (s : State) : State × Reply :=
  if data.length ≠ 2 then (s, bareReply .frameError)
  else if timerInRange i (beNat data) then (s.setTimers (setTimerValue s.timers i (beNat data)), bareReply .ok)
  else (s, bareReply .badValue)

/-- R96: a WRITE ITEM to a window item: its data length, then the checks of the record, then the whole record is replaced. -/
def writeWindow (w : WindowNo) (data : List Byte) (s : State) : State × Reply :=
  if data.length ≠ 12 then (s, bareReply .frameError)
  else
    match windowOfBytes data with
    | none => (s, bareReply .badValue)
    | some record => (s.setWindows (s.windows.set w record), bareReply .ok)

/-- R41: the order mode of the stream may be written: it is held and has no PQ and no PRT entry. -/
def orderModeWritable (s : State) (i : StreamNo) : Bool :=
  s.streams[i].hold && drained s i && !s.prt.any fun p => p.stream == i

/-- R41: a WRITE ITEM to a stream item: its data length (R157), then the value, then the condition on the stream. -/
def writeOrderMode (i : StreamNo) (data : List Byte) (s : State) : State × Reply :=
  match data with
  | [b] =>
    match orderModeOfCode b with
    | none => (s, bareReply .badValue)
    | some m =>
      if orderModeWritable s i then (setStream i { s.streams[i] with orderMode := m } s, bareReply .ok)
      else (s, bareReply .refused)
  | _ => (s, bareReply .frameError)

/-- R153: WRITE ITEM, by the item its number names; an unknown or read-only item gives BAD_ITEM (R150, step 1). -/
def writeItemAction (r : FrameRequest) (s : State) : State × Reply :=
  match itemOfNumber r.item with
  | some (.timer t) => writeTimer t r.data s
  | some (.window w) => writeWindow w r.data s
  | some (.stream i) => writeOrderMode i r.data s
  | some .id | some .state | some .pqCount | some .prtCount | some .tagCounts | some .nqCount | some .noticesLost
  | some .elCount | some .errorsLost | some (.counter _) | none => (s, bareReply .badItem)

end Sys2Proof.Machine
end

