-- ==== Sys2Proof/Machine/Management.lean ====
section
/-! DEFINITION. What the operating state, stream, report and tag commands of the management port do (chapters 7, 8, 2, 4). -/

namespace Sys2Proof.Machine

/-- R121: START moves OFFLINE to ONLINE. -/
def startAction (_r : FrameRequest) (s : State) : State × Reply :=
  match s.opState with
  | .offline => (s.setOpState .online, bareReply .ok)
  | .online => (s, bareReply .refused)
  | .draining => (s, bareReply .refused)

/-- R122: STOP moves ONLINE to DRAINING, seals every OPEN entry, frees the LINGERING entries, and may complete the drain. -/
def stopAction (_r : FrameRequest) (s : State) : State × Reply :=
  match s.opState with
  | .online =>
    let s1 := sealAll (s.setOpState .draining)
    (checkDrain (s1.setPrt (s1.prt.filter fun p => !p.isLingering)), bareReply .ok)
  | .offline => (s, bareReply .refused)
  | .draining => (s, bareReply .refused)

/-- R126: CLEAR in OFFLINE empties the NQ and the EL, zeroes the lost-counts and the counters, and clears fault marks and holds. -/
def clearAll (s : State) : State :=
  mapStreams (fun _ r => { r with faultMark := false, hold := false })
    (((((s.setNq []).setNoticesLost 0).setEl []).setErrorsLost 0).setCounters (Vector.replicate 19 0))

/-- R126: CLEAR is taken in OFFLINE. -/
def clearAction (_r : FrameRequest) (s : State) : State × Reply :=
  match s.opState with
  | .offline => (clearAll s, bareReply .ok)
  | .online => (s, bareReply .refused)
  | .draining => (s, bareReply .refused)

/-- R128: HOLD puts the named streams on hold and seals their OPEN entries (R17). -/
def holdAction (r : FrameRequest) (s : State) : State × Reply :=
  let sealed := sealWhere (fun e => inStreamSet r.data e.stream && s.streams[e.stream].openEntry == some e.id) s
  (mapStreams (fun i rec => if inStreamSet r.data i then { rec with hold := true } else rec) sealed, bareReply .ok)

/-- R129: UNHOLD takes the hold off the named streams. -/
def unholdAction (r : FrameRequest) (s : State) : State × Reply :=
  (mapStreams (fun i rec => if inStreamSet r.data i then { rec with hold := false } else rec) s, bareReply .ok)

/-- R39: CLEAR FAULT clears the fault mark of the named streams and leaves the void marks. -/
def clearFaultAction (r : FrameRequest) (s : State) : State × Reply :=
  (mapStreams (fun i rec => if inStreamSet r.data i then { rec with faultMark := false } else rec) s, bareReply .ok)

/-- R136: TAKE NOTICE removes and returns the oldest notice, or answers EMPTY. -/
def takeNoticeAction (_r : FrameRequest) (s : State) : State × Reply :=
  match s.nq with
  | n :: rest => (s.setNq rest, { status := .ok, data := noticeBytes n })
  | [] => (s, bareReply .empty)

/-- R140: the record form removes and returns the oldest error record, or answers EMPTY. -/
def takeRecord (s : State) : State × Reply :=
  match s.el with
  | r :: rest => (s.setEl rest, { status := .ok, data := errorBytes r })
  | [] => (s, bareReply .empty)

/-- R141: the lost-count form returns ERRORS_LOST and sets it to 0. -/
def takeLostCount (s : State) : State × Reply :=
  (s.setErrorsLost 0, { status := .ok, data := [BitVec.ofNat 8 s.errorsLost] })

/-- R158: TAKE ERROR selects its form by its item field; a field that names no form gives BAD_ITEM. -/
def takeErrorAction (r : FrameRequest) (s : State) : State × Reply :=
  if r.item = 0 then takeRecord s
  else if r.item = 1 then takeLostCount s
  else (s, bareReply .badItem)

/-- R84: a LAPSED tag becomes FREE. -/
def Tag.freedIfLapsed : Tag → Tag
  | .lapsed => .free
  | .free => .free
  | .busy o timer => .busy o timer

/-- R84: FREE LAPSED makes every LAPSED tag FREE. -/
def freeLapsedAction (_r : FrameRequest) (s : State) : State × Reply :=
  (s.setTags (Vector.ofFn fun t => s.tags[t].freedIfLapsed), bareReply .ok)

end Sys2Proof.Machine
end

