-- ==== Sys2Proof/Machine/Frames.lean ====
section
/-! DEFINITION. The management rows: each is the end of a frame (R148 to R151, R162 to R164). -/

namespace Sys2Proof.Machine

/-- What a well-framed request of a row does (table 9-3): its effect on the owning block, and the reply (R150). -/
def rowAction : Instr → FrameRequest → State → State × Reply
  | .nop _ => nopAction
  | .readItem _ => readItemAction
  | .writeItem _ => writeItemAction
  | .writeItemWindow w _ => fun r => writeWindow w r.data
  | .writeItemTimer i _ => fun r => writeTimer i r.data
  | .writeItemOrderMode i _ => fun r => writeOrderMode i r.data
  | .start _ => startAction
  | .stop _ => stopAction
  | .clear _ => clearAction
  | .hold _ => holdAction
  | .unhold _ => unholdAction
  | .clearFault _ => clearFaultAction
  | .takeNotice _ => takeNoticeAction
  | .takeErrorRecordForm _ => takeErrorAction
  | .takeErrorLostCountForm _ => fun _ => takeLostCount
  | .freeLapsed _ => freeLapsedAction
  | .write .. | .read .. | .grant | .writeResponse .. | .readResponse .. | .readyAssertion | .readyDeassertion | .tick
  | .combineAgeExpiry .. | .claimTimeOut .. | .lingerTimerExpiry .. | .memoryTimeOut .. | .dBusReset | .releaseOfDrstn
  | .powerOnReset | .releaseOfPorn .. | .refclkCycle => nopAction

/-- R149, R150: a frame is taken: the reply buffer takes FRAME_ERROR where the frame's form fails, or else the reply of the row's action
on its block. -/
def takeFrame (c : Instr) (f : Frame) (s : State) : State :=
  match parseFrame f with
  | none => s.setReply (bareReply .frameError)
  | some r =>
    let done := rowAction c r s
    done.1.setReply done.2

/-- R164: a frame begun while PORn was asserted, or interrupted by it, executes nothing, whatever it carries. -/
def takeSpoiledFrame (s : State) : State :=
  s.setReply (bareReply .frameError)

/-- The rise of CS at the end of a frame (R148, R151): what MISO has carried, and no frame in progress. -/
def frameEnded (f : Frame) (s : State) : State :=
  (s.setMisos (s.misos ++ [misoAtEnd s f])).setFrameInProgress .csHigh

/-- The end of a frame is taken (R148 to R151). A frame that PORn spoiled leaves FRAME_ERROR (R164). -/
def takeFrameEnd (c : Instr) (f : Frame) (s : State) : State :=
  match s.frameInProgress with
  | .underReset .. => takeSpoiledFrame (frameEnded f s)
  | .csHigh | .receiving .. => takeFrame c f (frameEnded f s)

/-- R162: the end of a frame is held, the frame as it was received; MISO has carried the reply (R151). -/
def holdFrameEnd (c : Instr) (f : Frame) (s : State) : State :=
  match s.frameInProgress with
  | .underReset .. => holdEvent .spoiledFrame (frameEnded f s)
  | .csHigh | .receiving .. => holdEvent (.arrival c) (frameEnded f s)

/-- The end of a frame arrives. While PORn is asserted nothing is executed and the reply buffer stays (R163, R164). While REFCLK is stopped
the end is held (R162); behind a frame end that waits, nothing of a later frame is looked at, its end included (R148). -/
def arriveAtManagement (c : Instr) (f : Frame) (s : State) : State :=
  if s.por then frameEnded f s
  else if !s.refclkStopped then takeFrameEnd c f s
  else if s.waitsAt .management then waitAtPort [.frameEnd c] s
  else holdFrameEnd c f s

/-- The end of a row's frame. -/
def endFrame (c : Instr) (s : State) : State :=
  match frameOfInstr c with
  | some f => arriveAtManagement c f (s.setMisos [])
  | none => s

/-- NOP (R151, R149). -/
def execNop (f : Frame) (s : State) : Host.Outcome State Fault Refusal :=
  .next (endFrame (.nop f) s)

/-- READ_ITEM (R152). -/
def execReadItem (t : FrameTail) (s : State) : Host.Outcome State Fault Refusal :=
  .next (endFrame (.readItem t) s)

/-- WRITE_ITEM (R153). -/
def execWriteItem (t : FrameTail) (s : State) : Host.Outcome State Fault Refusal :=
  .next (endFrame (.writeItem t) s)

/-- WRITE_ITEM_WINDOW (R96). -/
def execWriteItemWindow (w : WindowNo) (t : FrameTail) (s : State) : Host.Outcome State Fault Refusal :=
  .next (endFrame (.writeItemWindow w t) s)

/-- WRITE_ITEM_TIMER (R155). -/
def execWriteItemTimer (i : TimerItem) (t : FrameTail) (s : State) : Host.Outcome State Fault Refusal :=
  .next (endFrame (.writeItemTimer i t) s)

/-- WRITE_ITEM_ORDER_MODE (R41). -/
def execWriteItemOrderMode (i : StreamNo) (t : FrameTail) (s : State) : Host.Outcome State Fault Refusal :=
  .next (endFrame (.writeItemOrderMode i t) s)

/-- START (R121). -/
def execStart (t : FrameTail) (s : State) : Host.Outcome State Fault Refusal :=
  .next (endFrame (.start t) s)

/-- STOP (R122). -/
def execStop (t : FrameTail) (s : State) : Host.Outcome State Fault Refusal :=
  .next (endFrame (.stop t) s)

/-- CLEAR (R126). -/
def execClear (t : FrameTail) (s : State) : Host.Outcome State Fault Refusal :=
  .next (endFrame (.clear t) s)

/-- HOLD (R128). -/
def execHold (t : FrameTail) (s : State) : Host.Outcome State Fault Refusal :=
  .next (endFrame (.hold t) s)

/-- UNHOLD (R129). -/
def execUnhold (t : FrameTail) (s : State) : Host.Outcome State Fault Refusal :=
  .next (endFrame (.unhold t) s)

/-- CLEAR_FAULT (R39). -/
def execClearFault (t : FrameTail) (s : State) : Host.Outcome State Fault Refusal :=
  .next (endFrame (.clearFault t) s)

/-- TAKE_NOTICE (R136). -/
def execTakeNotice (t : FrameTail) (s : State) : Host.Outcome State Fault Refusal :=
  .next (endFrame (.takeNotice t) s)

/-- TAKE_ERROR_RECORD_FORM (R140). -/
def execTakeErrorRecordForm (t : FrameTail) (s : State) : Host.Outcome State Fault Refusal :=
  .next (endFrame (.takeErrorRecordForm t) s)

/-- TAKE_ERROR_LOST_COUNT_FORM (R141). -/
def execTakeErrorLostCountForm (t : FrameTail) (s : State) : Host.Outcome State Fault Refusal :=
  .next (endFrame (.takeErrorLostCountForm t) s)

/-- FREE_LAPSED (R84). -/
def execFreeLapsed (t : FrameTail) (s : State) : Host.Outcome State Fault Refusal :=
  .next (endFrame (.freeLapsed t) s)

end Sys2Proof.Machine
end

