-- ==== Sys2Proof/Machine/MemoryLink.lean ====
section
/-! DEFINITION. The M-link: the issue arbiter, ready, and the two responses (chapter 4). -/

namespace Sys2Proof.Machine

/-- R72: the class granted when both classes have candidates. -/
def arbiterChoice (s : State) : LinkClass :=
  if Config.writePressure ≤ s.pq.length then .write
  else
    match s.lastGranted with
    | .write => .read
    | .read => .write

/-- R73: the request of a grant is sent, after those that the same event of the table sent before it. -/
def sendRequest (r : LinkRequest) (s : State) : State :=
  s.setRequests (s.requests ++ [r])

/-- R18, R73: the grant of tag `t` to a PQ entry: it becomes ISSUED and a Write Request is sent. -/
def grantWrite (t : TagNo) (e : PqEntry) (s : State) : State :=
  sendRequest (.writeRequest t e.line e.bytes)
    (((setTag t (.busy (.pqEntry e.id) (Timer.start s.timers.memTimeout)) s).setPq
      (s.pq.map fun x => if x.id = e.id then { x with state := .issued t } else x)).setLastGranted .write)

/-- R57, R73: the grant of tag `t` to a PRT entry: it becomes FETCHING and a Read Request is sent. -/
def grantRead (t : TagNo) (p : PrtEntry) (s : State) : State :=
  sendRequest (.readRequest t p.line)
    ((updatePrt p.id (fun q => { q with state := .fetching t })
      (setTag t (.busy (.prtEntry p.id) (Timer.start s.timers.memTimeout)) s)).setLastGranted .read)

/-- R71, R72: the arbiter's choice among the candidates present, granted the tag `t`; no request where none waits. -/
def grantCandidate (t : TagNo) (s : State) : State :=
  match writeCandidate s, readCandidate s with
  | some e, some p =>
    match arbiterChoice s with
    | .write => grantWrite t e s
    | .read => grantRead t p s
  | some e, none => grantWrite t e s
  | none, some p => grantRead t p s
  | none, none => s

/-- R73: with ready asserted, a FREE tag and a candidate waiting, one grant is made; otherwise none is (R68, R70, R163). -/
def grantOnce (s : State) : State :=
  if s.por || !s.ready then s
  else
    match lowestFreeTag s.tags with
    | some t => grantCandidate t s
    | none => s

/-- R73: a grant is made, and a further one, and so on, while the three conditions hold. Each grant takes a FREE tag, so there are at most
as many as tags. -/
def takeDueGrants (s : State) : State :=
  allTags.foldl (fun acc _ => grantOnce acc) s

/-- GRANT (R73). -/
def execGrant (s : State) : Host.Outcome State Fault Refusal :=
  .next (grantOnce (s.setRequests []))

/-- READY_ASSERTION (R68): the memory controller's signal, which PORn does not hold. -/
def execReadyAssertion (s : State) : Host.Outcome State Fault Refusal :=
  .next (s.setReady true)

/-- READY_DEASSERTION (R68). -/
def execReadyDeassertion (s : State) : Host.Outcome State Fault Refusal :=
  .next (s.setReady false)

/-- R75: the end of the write of a PQ entry, its tag already FREE. -/
def endWrite (t : TagNo) (id : Nat) (st : ResponseStatus) (s : State) : State :=
  match findPq s.pq id, st with
  | some e, .ok => retireEntry e s
  | some e, .fault => failEntry e (offerError (.writeFault e.stream e.line t) s)
  | none, _ => s

/-- R162: a response that arrives while REFCLK is stopped waits at the M-link. While PORn is asserted it is not taken (R163). -/
def arriveAtMemoryLink (c : Instr) (take : State → State) (s : State) : State :=
  if s.por then s else if s.refclkStopped then holdEvent (.arrival c) s else take s

/-- R75, R78, R79, R80: a Write Response that is taken is matched by its tag alone. -/
def takeWriteResponse (t : TagNo) (st : ResponseStatus) (s : State) : State :=
  match s.tags[t] with
  | .busy (.pqEntry id) _ => endWrite t id st (setTag t .free s)
  | .busy (.prtEntry _) _ => unexpectedResponse t s
  | .busy .orphan _ => unexpectedResponse t s
  | .lapsed => lateResponse t s
  | .free => unexpectedResponse t s

/-- WRITE_RESPONSE (R75). -/
def execWriteResponse (t : TagNo) (st : ResponseStatus) (s : State) : Host.Outcome State Fault Refusal :=
  .next (arriveAtMemoryLink (.writeResponse t st) (takeWriteResponse t st) s)

/-- R58, R59, R76: the end of the fetch of a PRT entry, its tag already FREE. -/
def endFetch (t : TagNo) (id : Nat) (r : ReadResult) (s : State) : State :=
  match (s.prt.find? fun p => p.id == id), r with
  | some _, .ok data => parkFetched id (.data data) s
  | some p, .fault => parkFetched id .fault (offerError (.readFault p.stream p.line t) s)
  | none, _ => s

/-- R76 to R80: a Read Response that is taken is matched by its tag alone. -/
def takeReadResponse (t : TagNo) (r : ReadResult) (s : State) : State :=
  match s.tags[t] with
  | .busy (.prtEntry id) _ => endFetch t id r (setTag t .free s)
  | .busy .orphan _ => setTag t .free s
  | .busy (.pqEntry _) _ => unexpectedResponse t s
  | .lapsed => lateResponse t s
  | .free => unexpectedResponse t s

/-- READ_RESPONSE (R76). -/
def execReadResponse (t : TagNo) (r : ReadResult) (s : State) : Host.Outcome State Fault Refusal :=
  .next (arriveAtMemoryLink (.readResponse t r) (takeReadResponse t r) s)

end Sys2Proof.Machine
end

