-- ==== Sys2Proof/Machine/Resets.lean ====
section
/-! DEFINITION. The D-bus reset and the power-on reset (R116, R117, R163, R164). -/

namespace Sys2Proof.Machine

/-- R87: a BUSY tag of class read becomes owned by orphan; its timer keeps running. -/
def Tag.orphaned : Tag → Tag
  | .busy (.prtEntry _) timer => .busy .orphan timer
  | .busy .orphan timer => .busy .orphan timer
  | .busy (.pqEntry id) timer => .busy (.pqEntry id) timer
  | .free => .free
  | .lapsed => .lapsed

/-- R117: the masters withdraw the transactions that wait on the bus. -/
def dropHeldTransactions (s : State) : State :=
  s.setHeld (s.held.filter fun h => h.port != some .deviceBus)

/-- R116: the D-bus reset: OPEN entries are sealed (R24), every PRT entry is freed (R65), BUSY read tags become orphan (R87), and a
drain may complete (R123). -/
def dBusResetEvent (s : State) : State :=
  let s1 := dropHeldTransactions ((sealAll s).setPrt [])
  checkDrain ((s1.setTags (Vector.ofFn fun t => s1.tags[t].orphaned)).setBusReset true)

/-- R116: the assertion of DRSTn. The event is the change to asserted; while PORn is asserted the line alone changes (R163). -/
def assertDrstn (s : State) : State :=
  if s.por then s.setDrstn true
  else if s.drstn then s
  else dBusResetEvent (s.setDrstn true)

/-- D_BUS_RESET (R116). -/
def execDBusReset (s : State) : Host.Outcome State Fault Refusal :=
  .next (assertDrstn s)

/-- RELEASE_OF_DRSTN (R117): the bus reset condition becomes released, and no other state changes. -/
def execReleaseOfDrstn (s : State) : Host.Outcome State Fault Refusal :=
  .next ((s.setDrstn false).setBusReset false)

/-- R163, R164: the part held at its power-on values, PORn asserted; a frame in progress is discarded. The input pins and the waiting
commands are outside the part (assumption 15), and the events held at its interfaces are not taken (assumption 22). The bus reset
condition is held released until the release of PORn (assumption 2). -/
def powerOnState (s : State) : State :=
  { State.reset with
    por := true, drstn := s.drstn, ready := s.ready, refclkStopped := s.refclkStopped,
    frameInProgress := s.frameAtAssertion, cycleInputs := s.cycleInputs, pending := s.pending }

/-- POWER_ON_RESET (R163). -/
def execPowerOnReset (s : State) : Host.Outcome State Fault Refusal :=
  .next (powerOnState s)

/-- R164: the frame in progress at the release of PORn: where CS is low, a frame that counts as begun while PORn was asserted. -/
def FrameProgress.atRelease (csLow : Bool) (held : Reply) (f : FrameProgress) : FrameProgress :=
  if csLow then
    match f with
    | .csHigh => .underReset held 0
    | .receiving bits sending => .underReset sending bits.length
    | .underReset sending cycles => .underReset sending cycles
  else .csHigh

/-- R163, R164, R116: the release of PORn. The bus reset condition takes the level of DRSTn. -/
def releasePorn (csLow : Bool) (s : State) : State :=
  ((s.setPor false).setBusReset s.drstn).setFrameInProgress (s.frameInProgress.atRelease csLow s.reply)

/-- RELEASE_OF_PORN (R163). A pulse shorter than the minimum of table 10-2 may leave the part in no defined state: the machine
stops with a fault. With PORn not asserted there is nothing to release. -/
def execReleaseOfPorn (csLow fullPulse : Bool) (s : State) : Host.Outcome State Fault Refusal :=
  if s.por then
    if fullPulse then .next (releasePorn csLow s) else .fault .resetPulseTooShort
  else .next s

end Sys2Proof.Machine
end

