-- ==== Sys2Proof/Machine/Held.lean ====
section
/-! DEFINITION. The events held at the interfaces while REFCLK is stopped are taken when it runs again (R162). -/

namespace Sys2Proof.Machine

/-- R148: the execution of a frame is complete, and the port looks at what has happened on it since, up to the end of the next frame. That
end is held in its turn, and what is behind it goes on waiting. -/
def resumePort : List PortEvent → State → State
  | [], s => s.setPortWaiting []
  | .edge e :: rest, s => resumePort rest (portEdges [e] s)
  | .frameEnd c :: rest, s =>
    match frameOfInstr c with
    | some f => (holdFrameEnd c f s).setPortWaiting rest
    | none => resumePort rest s

/-- R162: a held frame is executed as it was received; then the port goes on (R148). -/
def takeHeldFrame (c : Instr) (s : State) : State :=
  match frameOfInstr c with
  | some f => resumePort s.portWaiting (takeFrame c f s)
  | none => s

/-- R162: a held event is taken: a transaction gets its answer, a response meets its tag, a frame is executed. -/
def takeEvent (h : HeldEvent) (s : State) : State :=
  match h with
  | .spoiledFrame => resumePort s.portWaiting (takeSpoiledFrame s)
  | .arrival (.write i addr data) => writeTransaction i addr data s
  | .arrival (.read i addr n) => readTransaction i addr n s
  | .arrival (.writeResponse t st) => takeWriteResponse t st s
  | .arrival (.readResponse t r) => takeReadResponse t r s
  | .arrival c => takeHeldFrame c s

/-- The event that has been held longest is taken, with the grants that it makes due (R162, R73). -/
def takeOldestHeld (s : State) : State :=
  match s.held with
  | [] => s
  | h :: rest => takeDueGrants (takeEvent h (s.setHeld rest))

/-- Up to `n` held events are taken, one after another. -/
def takeHeldUpTo : Nat → State → State
  | 0, s => s
  | n + 1, s => takeHeldUpTo n (takeOldestHeld s)

/-- R162: REFCLK runs again, and every held event is taken, those of one interface in the order of their arrival. Each event that waits, a
frame end on the port among them, is taken once. DESIGN CHOICE (assumption 21): of all events the oldest comes first, and the first cycle takes
them all. -/
def takeAllHeld (s : State) : State :=
  takeHeldUpTo (s.held.length + s.portWaiting.length) s

end Sys2Proof.Machine
end

