-- ==== Sys2Proof/Machine/Timebase.lean ====
section
/-! DEFINITION. The timebase and the timer expiries (R162, R15, R60, R61, R81), and the expiries and grants that come before a cycle counts
(R73). While PORn is asserted the count is held and no timer exists (R163). While REFCLK is stopped nothing expires. -/

namespace Sys2Proof.Machine

/-- The expiries that are due and that no command has taken (assumption 4), and then the grants that are due (R73, assumption 7), a grant
that follows a time-out among them. -/
def takeDue (s : State) : State :=
  takeDueGrants (takeDueExpiries s)

/-- What a REFCLK cycle takes before it counts: the expiries and grants that are due, then all the events that the stop of REFCLK held, each
with the grants that it makes due (R162, R73). So no tick passes with an event held. -/
def takeWaiting (s : State) : State :=
  takeAllHeld (takeDue (clearOutputs s))

/-- R162: the tick: the count of REFCLK cycles returns to 0 and every running timer advances. -/
def tickOnce (s : State) : State :=
  (advanceTimers (takeWaiting s)).setTbCount 0

/-- TICK (R162). DESIGN CHOICE (assumption 5): a TICK commanded while the count is below 49 stands for the REFCLK cycles up to the wrap and
the tick; REFCLK then runs. -/
def execTick (s : State) : Host.Outcome State Fault Refusal :=
  .next (if s.por then s else (tickOnce s).setRefclkStopped false)

/-- R162: one REFCLK cycle; the cycle at count 49 completes a tick. -/
def refclkOnce (s : State) : State :=
  if s.tbCount = 49 then tickOnce s else (takeWaiting s).setTbCount (s.tbCount + 1)

/-- What the board does at the next REFCLK cycle: nothing on the management port, and REFCLK runs on, where no input says otherwise
(assumption 23). -/
def State.nextInput (s : State) : CycleInput :=
  s.cycleInputs.headD { edges := [], stops := false }

/-- The edges that reach the management port before the next REFCLK cycle (R148). -/
def takeInput (s : State) : State :=
  edgesArrive s.nextInput.edges (s.setCycleInputs s.cycleInputs.tail)

/-- R162, R60: a timer expires at the tick at which it reaches its limit, so before REFCLK stops every expiry that is due is taken, and the
grants that follow (R73); the order is that of assumption 4. Where REFCLK runs on, the rows or the next cycle take them. -/
def takeDueBeforeStop (stops : Bool) (s : State) : State :=
  if stops then takeDue s else s

/-- REFCLK_CYCLE (R162, R148): the edges on the management port since the cycle before, the cycle, and whether REFCLK then stops. While
PORn is asserted the count is held at 0 (R163). -/
def execRefclkCycle (s : State) : Host.Outcome State Fault Refusal :=
  let stops := s.nextInput.stops
  .next ((if s.por then takeInput s else takeDueBeforeStop stops (refclkOnce (takeInput s))).setRefclkStopped stops)

/-- R162, R163: a timer can expire: PORn is released and REFCLK runs. -/
def timersRun (s : State) : Bool :=
  !s.por && !s.refclkStopped

/-- COMBINE_AGE_EXPIRY (R15). An expiry whose timer is not at its limit, or that cannot come now, does not come, and nothing changes
(assumption 6). -/
def execCombineAgeExpiry (i : StreamNo) (s : State) : Host.Outcome State Fault Refusal :=
  .next (if timersRun s then expireCombineAge i s else s)

/-- CLAIM_TIME_OUT (R60). -/
def execClaimTimeOut (i : StreamNo) (l : Line) (s : State) : Host.Outcome State Fault Refusal :=
  .next (if timersRun s then expireClaim i l s else s)

/-- LINGER_TIMER_EXPIRY (R61). -/
def execLingerTimerExpiry (i : StreamNo) (l : Line) (s : State) : Host.Outcome State Fault Refusal :=
  .next (if timersRun s then expireLinger i l s else s)

/-- MEMORY_TIME_OUT (R81). -/
def execMemoryTimeOut (t : TagNo) (s : State) : Host.Outcome State Fault Refusal :=
  .next (if timersRun s then expireMemory t s else s)

end Sys2Proof.Machine
end

