-- ==== Sys2Proof/Machine/Dispatch.lean ====
section
/-! DEFINITION. One arm per command: its meaning. -/

namespace Sys2Proof.Machine

/-- The effect of a command on everything but the queue of waiting commands. -/
def exec (c : Instr) (s : State) : Host.Outcome State Fault Refusal :=
  match c with
  | .write i addr data => Sys2Proof.Machine.execWrite i addr data s
  | .read i addr n => Sys2Proof.Machine.execRead i addr n s
  | .grant => Sys2Proof.Machine.execGrant s
  | .writeResponse t st => Sys2Proof.Machine.execWriteResponse t st s
  | .readResponse t r => Sys2Proof.Machine.execReadResponse t r s
  | .readyAssertion => Sys2Proof.Machine.execReadyAssertion s
  | .readyDeassertion => Sys2Proof.Machine.execReadyDeassertion s
  | .tick => Sys2Proof.Machine.execTick s
  | .combineAgeExpiry i => Sys2Proof.Machine.execCombineAgeExpiry i s
  | .claimTimeOut i l => Sys2Proof.Machine.execClaimTimeOut i l s
  | .lingerTimerExpiry i l => Sys2Proof.Machine.execLingerTimerExpiry i l s
  | .memoryTimeOut t => Sys2Proof.Machine.execMemoryTimeOut t s
  | .dBusReset => Sys2Proof.Machine.execDBusReset s
  | .releaseOfDrstn => Sys2Proof.Machine.execReleaseOfDrstn s
  | .powerOnReset => Sys2Proof.Machine.execPowerOnReset s
  | .releaseOfPorn csLow fullPulse => Sys2Proof.Machine.execReleaseOfPorn csLow fullPulse s
  | .nop f => Sys2Proof.Machine.execNop f s
  | .readItem t => Sys2Proof.Machine.execReadItem t s
  | .writeItem t => Sys2Proof.Machine.execWriteItem t s
  | .writeItemWindow w t => Sys2Proof.Machine.execWriteItemWindow w t s
  | .writeItemTimer k t => Sys2Proof.Machine.execWriteItemTimer k t s
  | .writeItemOrderMode j t => Sys2Proof.Machine.execWriteItemOrderMode j t s
  | .start t => Sys2Proof.Machine.execStart t s
  | .stop t => Sys2Proof.Machine.execStop t s
  | .clear t => Sys2Proof.Machine.execClear t s
  | .hold t => Sys2Proof.Machine.execHold t s
  | .unhold t => Sys2Proof.Machine.execUnhold t s
  | .clearFault t => Sys2Proof.Machine.execClearFault t s
  | .takeNotice t => Sys2Proof.Machine.execTakeNotice t s
  | .takeErrorRecordForm t => Sys2Proof.Machine.execTakeErrorRecordForm t s
  | .takeErrorLostCountForm t => Sys2Proof.Machine.execTakeErrorLostCountForm t s
  | .freeLapsed t => Sys2Proof.Machine.execFreeLapsed t s
  | .refclkCycle => Sys2Proof.Machine.execRefclkCycle s

end Sys2Proof.Machine
end

