-- ==== Sys2Proof/Laws/State.lean ====
section
/-! SUPPORT. The small lemmas of State: each field of each update, so that no proof unfolds a record update. -/

namespace Sys2Proof.Machine

variable (s : State)

@[simp] theorem State.setPor_por (x : Bool) : (s.setPor x).por = x := rfl
@[simp] theorem State.setPor_drstn (x : Bool) : (s.setPor x).drstn = s.drstn := rfl
@[simp] theorem State.setPor_ready (x : Bool) : (s.setPor x).ready = s.ready := rfl
@[simp] theorem State.setPor_refclkStopped (x : Bool) : (s.setPor x).refclkStopped = s.refclkStopped := rfl
@[simp] theorem State.setPor_busReset (x : Bool) : (s.setPor x).busReset = s.busReset := rfl
@[simp] theorem State.setPor_opState (x : Bool) : (s.setPor x).opState = s.opState := rfl
@[simp] theorem State.setPor_pq (x : Bool) : (s.setPor x).pq = s.pq := rfl
@[simp] theorem State.setPor_prt (x : Bool) : (s.setPor x).prt = s.prt := rfl
@[simp] theorem State.setPor_tags (x : Bool) : (s.setPor x).tags = s.tags := rfl
@[simp] theorem State.setPor_lastGranted (x : Bool) : (s.setPor x).lastGranted = s.lastGranted := rfl
@[simp] theorem State.setPor_windows (x : Bool) : (s.setPor x).windows = s.windows := rfl
@[simp] theorem State.setPor_streams (x : Bool) : (s.setPor x).streams = s.streams := rfl
@[simp] theorem State.setPor_nq (x : Bool) : (s.setPor x).nq = s.nq := rfl
@[simp] theorem State.setPor_noticesLost (x : Bool) : (s.setPor x).noticesLost = s.noticesLost := rfl
@[simp] theorem State.setPor_el (x : Bool) : (s.setPor x).el = s.el := rfl
@[simp] theorem State.setPor_errorsLost (x : Bool) : (s.setPor x).errorsLost = s.errorsLost := rfl
@[simp] theorem State.setPor_counters (x : Bool) : (s.setPor x).counters = s.counters := rfl
@[simp] theorem State.setPor_timers (x : Bool) : (s.setPor x).timers = s.timers := rfl
@[simp] theorem State.setPor_reply (x : Bool) : (s.setPor x).reply = s.reply := rfl
@[simp] theorem State.setPor_frameInProgress (x : Bool) : (s.setPor x).frameInProgress = s.frameInProgress := rfl
@[simp] theorem State.setPor_tbCount (x : Bool) : (s.setPor x).tbCount = s.tbCount := rfl
@[simp] theorem State.setPor_held (x : Bool) : (s.setPor x).held = s.held := rfl
@[simp] theorem State.setPor_portWaiting (x : Bool) : (s.setPor x).portWaiting = s.portWaiting := rfl
@[simp] theorem State.setPor_cycleInputs (x : Bool) : (s.setPor x).cycleInputs = s.cycleInputs := rfl
@[simp] theorem State.setPor_answers (x : Bool) : (s.setPor x).answers = s.answers := rfl
@[simp] theorem State.setPor_requests (x : Bool) : (s.setPor x).requests = s.requests := rfl
@[simp] theorem State.setPor_misos (x : Bool) : (s.setPor x).misos = s.misos := rfl
@[simp] theorem State.setPor_nextId (x : Bool) : (s.setPor x).nextId = s.nextId := rfl
@[simp] theorem State.setPor_pending (x : Bool) : (s.setPor x).pending = s.pending := rfl
@[simp] theorem State.setPor_same : s.setPor s.por = s := rfl
@[simp] theorem State.setPor_setPor (x y : Bool) : (s.setPor x).setPor y = s.setPor y := rfl

@[simp] theorem State.setDrstn_por (x : Bool) : (s.setDrstn x).por = s.por := rfl
@[simp] theorem State.setDrstn_drstn (x : Bool) : (s.setDrstn x).drstn = x := rfl
@[simp] theorem State.setDrstn_ready (x : Bool) : (s.setDrstn x).ready = s.ready := rfl
@[simp] theorem State.setDrstn_refclkStopped (x : Bool) : (s.setDrstn x).refclkStopped = s.refclkStopped := rfl
@[simp] theorem State.setDrstn_busReset (x : Bool) : (s.setDrstn x).busReset = s.busReset := rfl
@[simp] theorem State.setDrstn_opState (x : Bool) : (s.setDrstn x).opState = s.opState := rfl
@[simp] theorem State.setDrstn_pq (x : Bool) : (s.setDrstn x).pq = s.pq := rfl
@[simp] theorem State.setDrstn_prt (x : Bool) : (s.setDrstn x).prt = s.prt := rfl
@[simp] theorem State.setDrstn_tags (x : Bool) : (s.setDrstn x).tags = s.tags := rfl
@[simp] theorem State.setDrstn_lastGranted (x : Bool) : (s.setDrstn x).lastGranted = s.lastGranted := rfl
@[simp] theorem State.setDrstn_windows (x : Bool) : (s.setDrstn x).windows = s.windows := rfl
@[simp] theorem State.setDrstn_streams (x : Bool) : (s.setDrstn x).streams = s.streams := rfl
@[simp] theorem State.setDrstn_nq (x : Bool) : (s.setDrstn x).nq = s.nq := rfl
@[simp] theorem State.setDrstn_noticesLost (x : Bool) : (s.setDrstn x).noticesLost = s.noticesLost := rfl
@[simp] theorem State.setDrstn_el (x : Bool) : (s.setDrstn x).el = s.el := rfl
@[simp] theorem State.setDrstn_errorsLost (x : Bool) : (s.setDrstn x).errorsLost = s.errorsLost := rfl
@[simp] theorem State.setDrstn_counters (x : Bool) : (s.setDrstn x).counters = s.counters := rfl
@[simp] theorem State.setDrstn_timers (x : Bool) : (s.setDrstn x).timers = s.timers := rfl
@[simp] theorem State.setDrstn_reply (x : Bool) : (s.setDrstn x).reply = s.reply := rfl
@[simp] theorem State.setDrstn_frameInProgress (x : Bool) : (s.setDrstn x).frameInProgress = s.frameInProgress := rfl
@[simp] theorem State.setDrstn_tbCount (x : Bool) : (s.setDrstn x).tbCount = s.tbCount := rfl
@[simp] theorem State.setDrstn_held (x : Bool) : (s.setDrstn x).held = s.held := rfl
@[simp] theorem State.setDrstn_portWaiting (x : Bool) : (s.setDrstn x).portWaiting = s.portWaiting := rfl
@[simp] theorem State.setDrstn_cycleInputs (x : Bool) : (s.setDrstn x).cycleInputs = s.cycleInputs := rfl
@[simp] theorem State.setDrstn_answers (x : Bool) : (s.setDrstn x).answers = s.answers := rfl
@[simp] theorem State.setDrstn_requests (x : Bool) : (s.setDrstn x).requests = s.requests := rfl
@[simp] theorem State.setDrstn_misos (x : Bool) : (s.setDrstn x).misos = s.misos := rfl
@[simp] theorem State.setDrstn_nextId (x : Bool) : (s.setDrstn x).nextId = s.nextId := rfl
@[simp] theorem State.setDrstn_pending (x : Bool) : (s.setDrstn x).pending = s.pending := rfl
@[simp] theorem State.setDrstn_same : s.setDrstn s.drstn = s := rfl
@[simp] theorem State.setDrstn_setDrstn (x y : Bool) : (s.setDrstn x).setDrstn y = s.setDrstn y := rfl

@[simp] theorem State.setReady_por (x : Bool) : (s.setReady x).por = s.por := rfl
@[simp] theorem State.setReady_drstn (x : Bool) : (s.setReady x).drstn = s.drstn := rfl
@[simp] theorem State.setReady_ready (x : Bool) : (s.setReady x).ready = x := rfl
@[simp] theorem State.setReady_refclkStopped (x : Bool) : (s.setReady x).refclkStopped = s.refclkStopped := rfl
@[simp] theorem State.setReady_busReset (x : Bool) : (s.setReady x).busReset = s.busReset := rfl
@[simp] theorem State.setReady_opState (x : Bool) : (s.setReady x).opState = s.opState := rfl
@[simp] theorem State.setReady_pq (x : Bool) : (s.setReady x).pq = s.pq := rfl
@[simp] theorem State.setReady_prt (x : Bool) : (s.setReady x).prt = s.prt := rfl
@[simp] theorem State.setReady_tags (x : Bool) : (s.setReady x).tags = s.tags := rfl
@[simp] theorem State.setReady_lastGranted (x : Bool) : (s.setReady x).lastGranted = s.lastGranted := rfl
@[simp] theorem State.setReady_windows (x : Bool) : (s.setReady x).windows = s.windows := rfl
@[simp] theorem State.setReady_streams (x : Bool) : (s.setReady x).streams = s.streams := rfl
@[simp] theorem State.setReady_nq (x : Bool) : (s.setReady x).nq = s.nq := rfl
@[simp] theorem State.setReady_noticesLost (x : Bool) : (s.setReady x).noticesLost = s.noticesLost := rfl
@[simp] theorem State.setReady_el (x : Bool) : (s.setReady x).el = s.el := rfl
@[simp] theorem State.setReady_errorsLost (x : Bool) : (s.setReady x).errorsLost = s.errorsLost := rfl
@[simp] theorem State.setReady_counters (x : Bool) : (s.setReady x).counters = s.counters := rfl
@[simp] theorem State.setReady_timers (x : Bool) : (s.setReady x).timers = s.timers := rfl
@[simp] theorem State.setReady_reply (x : Bool) : (s.setReady x).reply = s.reply := rfl
@[simp] theorem State.setReady_frameInProgress (x : Bool) : (s.setReady x).frameInProgress = s.frameInProgress := rfl
@[simp] theorem State.setReady_tbCount (x : Bool) : (s.setReady x).tbCount = s.tbCount := rfl
@[simp] theorem State.setReady_held (x : Bool) : (s.setReady x).held = s.held := rfl
@[simp] theorem State.setReady_portWaiting (x : Bool) : (s.setReady x).portWaiting = s.portWaiting := rfl
@[simp] theorem State.setReady_cycleInputs (x : Bool) : (s.setReady x).cycleInputs = s.cycleInputs := rfl
@[simp] theorem State.setReady_answers (x : Bool) : (s.setReady x).answers = s.answers := rfl
@[simp] theorem State.setReady_requests (x : Bool) : (s.setReady x).requests = s.requests := rfl
@[simp] theorem State.setReady_misos (x : Bool) : (s.setReady x).misos = s.misos := rfl
@[simp] theorem State.setReady_nextId (x : Bool) : (s.setReady x).nextId = s.nextId := rfl
@[simp] theorem State.setReady_pending (x : Bool) : (s.setReady x).pending = s.pending := rfl
@[simp] theorem State.setReady_same : s.setReady s.ready = s := rfl
@[simp] theorem State.setReady_setReady (x y : Bool) : (s.setReady x).setReady y = s.setReady y := rfl

@[simp] theorem State.setRefclkStopped_por (x : Bool) : (s.setRefclkStopped x).por = s.por := rfl
@[simp] theorem State.setRefclkStopped_drstn (x : Bool) : (s.setRefclkStopped x).drstn = s.drstn := rfl
@[simp] theorem State.setRefclkStopped_ready (x : Bool) : (s.setRefclkStopped x).ready = s.ready := rfl
@[simp] theorem State.setRefclkStopped_refclkStopped (x : Bool) : (s.setRefclkStopped x).refclkStopped = x := rfl
@[simp] theorem State.setRefclkStopped_busReset (x : Bool) : (s.setRefclkStopped x).busReset = s.busReset := rfl
@[simp] theorem State.setRefclkStopped_opState (x : Bool) : (s.setRefclkStopped x).opState = s.opState := rfl
@[simp] theorem State.setRefclkStopped_pq (x : Bool) : (s.setRefclkStopped x).pq = s.pq := rfl
@[simp] theorem State.setRefclkStopped_prt (x : Bool) : (s.setRefclkStopped x).prt = s.prt := rfl
@[simp] theorem State.setRefclkStopped_tags (x : Bool) : (s.setRefclkStopped x).tags = s.tags := rfl
@[simp] theorem State.setRefclkStopped_lastGranted (x : Bool) : (s.setRefclkStopped x).lastGranted = s.lastGranted := rfl
@[simp] theorem State.setRefclkStopped_windows (x : Bool) : (s.setRefclkStopped x).windows = s.windows := rfl
@[simp] theorem State.setRefclkStopped_streams (x : Bool) : (s.setRefclkStopped x).streams = s.streams := rfl
@[simp] theorem State.setRefclkStopped_nq (x : Bool) : (s.setRefclkStopped x).nq = s.nq := rfl
@[simp] theorem State.setRefclkStopped_noticesLost (x : Bool) : (s.setRefclkStopped x).noticesLost = s.noticesLost := rfl
@[simp] theorem State.setRefclkStopped_el (x : Bool) : (s.setRefclkStopped x).el = s.el := rfl
@[simp] theorem State.setRefclkStopped_errorsLost (x : Bool) : (s.setRefclkStopped x).errorsLost = s.errorsLost := rfl
@[simp] theorem State.setRefclkStopped_counters (x : Bool) : (s.setRefclkStopped x).counters = s.counters := rfl
@[simp] theorem State.setRefclkStopped_timers (x : Bool) : (s.setRefclkStopped x).timers = s.timers := rfl
@[simp] theorem State.setRefclkStopped_reply (x : Bool) : (s.setRefclkStopped x).reply = s.reply := rfl
@[simp] theorem State.setRefclkStopped_frameInProgress (x : Bool) : (s.setRefclkStopped x).frameInProgress = s.frameInProgress := rfl
@[simp] theorem State.setRefclkStopped_tbCount (x : Bool) : (s.setRefclkStopped x).tbCount = s.tbCount := rfl
@[simp] theorem State.setRefclkStopped_held (x : Bool) : (s.setRefclkStopped x).held = s.held := rfl
@[simp] theorem State.setRefclkStopped_portWaiting (x : Bool) : (s.setRefclkStopped x).portWaiting = s.portWaiting := rfl
@[simp] theorem State.setRefclkStopped_cycleInputs (x : Bool) : (s.setRefclkStopped x).cycleInputs = s.cycleInputs := rfl
@[simp] theorem State.setRefclkStopped_answers (x : Bool) : (s.setRefclkStopped x).answers = s.answers := rfl
@[simp] theorem State.setRefclkStopped_requests (x : Bool) : (s.setRefclkStopped x).requests = s.requests := rfl
@[simp] theorem State.setRefclkStopped_misos (x : Bool) : (s.setRefclkStopped x).misos = s.misos := rfl
@[simp] theorem State.setRefclkStopped_nextId (x : Bool) : (s.setRefclkStopped x).nextId = s.nextId := rfl
@[simp] theorem State.setRefclkStopped_pending (x : Bool) : (s.setRefclkStopped x).pending = s.pending := rfl
@[simp] theorem State.setRefclkStopped_same : s.setRefclkStopped s.refclkStopped = s := rfl
@[simp] theorem State.setRefclkStopped_setRefclkStopped (x y : Bool) : (s.setRefclkStopped x).setRefclkStopped y = s.setRefclkStopped y := rfl

@[simp] theorem State.setBusReset_por (x : Bool) : (s.setBusReset x).por = s.por := rfl
@[simp] theorem State.setBusReset_drstn (x : Bool) : (s.setBusReset x).drstn = s.drstn := rfl
@[simp] theorem State.setBusReset_ready (x : Bool) : (s.setBusReset x).ready = s.ready := rfl
@[simp] theorem State.setBusReset_refclkStopped (x : Bool) : (s.setBusReset x).refclkStopped = s.refclkStopped := rfl
@[simp] theorem State.setBusReset_busReset (x : Bool) : (s.setBusReset x).busReset = x := rfl
@[simp] theorem State.setBusReset_opState (x : Bool) : (s.setBusReset x).opState = s.opState := rfl
@[simp] theorem State.setBusReset_pq (x : Bool) : (s.setBusReset x).pq = s.pq := rfl
@[simp] theorem State.setBusReset_prt (x : Bool) : (s.setBusReset x).prt = s.prt := rfl
@[simp] theorem State.setBusReset_tags (x : Bool) : (s.setBusReset x).tags = s.tags := rfl
@[simp] theorem State.setBusReset_lastGranted (x : Bool) : (s.setBusReset x).lastGranted = s.lastGranted := rfl
@[simp] theorem State.setBusReset_windows (x : Bool) : (s.setBusReset x).windows = s.windows := rfl
@[simp] theorem State.setBusReset_streams (x : Bool) : (s.setBusReset x).streams = s.streams := rfl
@[simp] theorem State.setBusReset_nq (x : Bool) : (s.setBusReset x).nq = s.nq := rfl
@[simp] theorem State.setBusReset_noticesLost (x : Bool) : (s.setBusReset x).noticesLost = s.noticesLost := rfl
@[simp] theorem State.setBusReset_el (x : Bool) : (s.setBusReset x).el = s.el := rfl
@[simp] theorem State.setBusReset_errorsLost (x : Bool) : (s.setBusReset x).errorsLost = s.errorsLost := rfl
@[simp] theorem State.setBusReset_counters (x : Bool) : (s.setBusReset x).counters = s.counters := rfl
@[simp] theorem State.setBusReset_timers (x : Bool) : (s.setBusReset x).timers = s.timers := rfl
@[simp] theorem State.setBusReset_reply (x : Bool) : (s.setBusReset x).reply = s.reply := rfl
@[simp] theorem State.setBusReset_frameInProgress (x : Bool) : (s.setBusReset x).frameInProgress = s.frameInProgress := rfl
@[simp] theorem State.setBusReset_tbCount (x : Bool) : (s.setBusReset x).tbCount = s.tbCount := rfl
@[simp] theorem State.setBusReset_held (x : Bool) : (s.setBusReset x).held = s.held := rfl
@[simp] theorem State.setBusReset_portWaiting (x : Bool) : (s.setBusReset x).portWaiting = s.portWaiting := rfl
@[simp] theorem State.setBusReset_cycleInputs (x : Bool) : (s.setBusReset x).cycleInputs = s.cycleInputs := rfl
@[simp] theorem State.setBusReset_answers (x : Bool) : (s.setBusReset x).answers = s.answers := rfl
@[simp] theorem State.setBusReset_requests (x : Bool) : (s.setBusReset x).requests = s.requests := rfl
@[simp] theorem State.setBusReset_misos (x : Bool) : (s.setBusReset x).misos = s.misos := rfl
@[simp] theorem State.setBusReset_nextId (x : Bool) : (s.setBusReset x).nextId = s.nextId := rfl
@[simp] theorem State.setBusReset_pending (x : Bool) : (s.setBusReset x).pending = s.pending := rfl
@[simp] theorem State.setBusReset_same : s.setBusReset s.busReset = s := rfl
@[simp] theorem State.setBusReset_setBusReset (x y : Bool) : (s.setBusReset x).setBusReset y = s.setBusReset y := rfl

@[simp] theorem State.setOpState_por (x : OpState) : (s.setOpState x).por = s.por := rfl
@[simp] theorem State.setOpState_drstn (x : OpState) : (s.setOpState x).drstn = s.drstn := rfl
@[simp] theorem State.setOpState_ready (x : OpState) : (s.setOpState x).ready = s.ready := rfl
@[simp] theorem State.setOpState_refclkStopped (x : OpState) : (s.setOpState x).refclkStopped = s.refclkStopped := rfl
@[simp] theorem State.setOpState_busReset (x : OpState) : (s.setOpState x).busReset = s.busReset := rfl
@[simp] theorem State.setOpState_opState (x : OpState) : (s.setOpState x).opState = x := rfl
@[simp] theorem State.setOpState_pq (x : OpState) : (s.setOpState x).pq = s.pq := rfl
@[simp] theorem State.setOpState_prt (x : OpState) : (s.setOpState x).prt = s.prt := rfl
@[simp] theorem State.setOpState_tags (x : OpState) : (s.setOpState x).tags = s.tags := rfl
@[simp] theorem State.setOpState_lastGranted (x : OpState) : (s.setOpState x).lastGranted = s.lastGranted := rfl
@[simp] theorem State.setOpState_windows (x : OpState) : (s.setOpState x).windows = s.windows := rfl
@[simp] theorem State.setOpState_streams (x : OpState) : (s.setOpState x).streams = s.streams := rfl
@[simp] theorem State.setOpState_nq (x : OpState) : (s.setOpState x).nq = s.nq := rfl
@[simp] theorem State.setOpState_noticesLost (x : OpState) : (s.setOpState x).noticesLost = s.noticesLost := rfl
@[simp] theorem State.setOpState_el (x : OpState) : (s.setOpState x).el = s.el := rfl
@[simp] theorem State.setOpState_errorsLost (x : OpState) : (s.setOpState x).errorsLost = s.errorsLost := rfl
@[simp] theorem State.setOpState_counters (x : OpState) : (s.setOpState x).counters = s.counters := rfl
@[simp] theorem State.setOpState_timers (x : OpState) : (s.setOpState x).timers = s.timers := rfl
@[simp] theorem State.setOpState_reply (x : OpState) : (s.setOpState x).reply = s.reply := rfl
@[simp] theorem State.setOpState_frameInProgress (x : OpState) : (s.setOpState x).frameInProgress = s.frameInProgress := rfl
@[simp] theorem State.setOpState_tbCount (x : OpState) : (s.setOpState x).tbCount = s.tbCount := rfl
@[simp] theorem State.setOpState_held (x : OpState) : (s.setOpState x).held = s.held := rfl
@[simp] theorem State.setOpState_portWaiting (x : OpState) : (s.setOpState x).portWaiting = s.portWaiting := rfl
@[simp] theorem State.setOpState_cycleInputs (x : OpState) : (s.setOpState x).cycleInputs = s.cycleInputs := rfl
@[simp] theorem State.setOpState_answers (x : OpState) : (s.setOpState x).answers = s.answers := rfl
@[simp] theorem State.setOpState_requests (x : OpState) : (s.setOpState x).requests = s.requests := rfl
@[simp] theorem State.setOpState_misos (x : OpState) : (s.setOpState x).misos = s.misos := rfl
@[simp] theorem State.setOpState_nextId (x : OpState) : (s.setOpState x).nextId = s.nextId := rfl
@[simp] theorem State.setOpState_pending (x : OpState) : (s.setOpState x).pending = s.pending := rfl
@[simp] theorem State.setOpState_same : s.setOpState s.opState = s := rfl
@[simp] theorem State.setOpState_setOpState (x y : OpState) : (s.setOpState x).setOpState y = s.setOpState y := rfl

@[simp] theorem State.setPq_por (x : List PqEntry) : (s.setPq x).por = s.por := rfl
@[simp] theorem State.setPq_drstn (x : List PqEntry) : (s.setPq x).drstn = s.drstn := rfl
@[simp] theorem State.setPq_ready (x : List PqEntry) : (s.setPq x).ready = s.ready := rfl
@[simp] theorem State.setPq_refclkStopped (x : List PqEntry) : (s.setPq x).refclkStopped = s.refclkStopped := rfl
@[simp] theorem State.setPq_busReset (x : List PqEntry) : (s.setPq x).busReset = s.busReset := rfl
@[simp] theorem State.setPq_opState (x : List PqEntry) : (s.setPq x).opState = s.opState := rfl
@[simp] theorem State.setPq_pq (x : List PqEntry) : (s.setPq x).pq = x := rfl
@[simp] theorem State.setPq_prt (x : List PqEntry) : (s.setPq x).prt = s.prt := rfl
@[simp] theorem State.setPq_tags (x : List PqEntry) : (s.setPq x).tags = s.tags := rfl
@[simp] theorem State.setPq_lastGranted (x : List PqEntry) : (s.setPq x).lastGranted = s.lastGranted := rfl
@[simp] theorem State.setPq_windows (x : List PqEntry) : (s.setPq x).windows = s.windows := rfl
@[simp] theorem State.setPq_streams (x : List PqEntry) : (s.setPq x).streams = s.streams := rfl
@[simp] theorem State.setPq_nq (x : List PqEntry) : (s.setPq x).nq = s.nq := rfl
@[simp] theorem State.setPq_noticesLost (x : List PqEntry) : (s.setPq x).noticesLost = s.noticesLost := rfl
@[simp] theorem State.setPq_el (x : List PqEntry) : (s.setPq x).el = s.el := rfl
@[simp] theorem State.setPq_errorsLost (x : List PqEntry) : (s.setPq x).errorsLost = s.errorsLost := rfl
@[simp] theorem State.setPq_counters (x : List PqEntry) : (s.setPq x).counters = s.counters := rfl
@[simp] theorem State.setPq_timers (x : List PqEntry) : (s.setPq x).timers = s.timers := rfl
@[simp] theorem State.setPq_reply (x : List PqEntry) : (s.setPq x).reply = s.reply := rfl
@[simp] theorem State.setPq_frameInProgress (x : List PqEntry) : (s.setPq x).frameInProgress = s.frameInProgress := rfl
@[simp] theorem State.setPq_tbCount (x : List PqEntry) : (s.setPq x).tbCount = s.tbCount := rfl
@[simp] theorem State.setPq_held (x : List PqEntry) : (s.setPq x).held = s.held := rfl
@[simp] theorem State.setPq_portWaiting (x : List PqEntry) : (s.setPq x).portWaiting = s.portWaiting := rfl
@[simp] theorem State.setPq_cycleInputs (x : List PqEntry) : (s.setPq x).cycleInputs = s.cycleInputs := rfl
@[simp] theorem State.setPq_answers (x : List PqEntry) : (s.setPq x).answers = s.answers := rfl
@[simp] theorem State.setPq_requests (x : List PqEntry) : (s.setPq x).requests = s.requests := rfl
@[simp] theorem State.setPq_misos (x : List PqEntry) : (s.setPq x).misos = s.misos := rfl
@[simp] theorem State.setPq_nextId (x : List PqEntry) : (s.setPq x).nextId = s.nextId := rfl
@[simp] theorem State.setPq_pending (x : List PqEntry) : (s.setPq x).pending = s.pending := rfl
@[simp] theorem State.setPq_same : s.setPq s.pq = s := rfl
@[simp] theorem State.setPq_setPq (x y : List PqEntry) : (s.setPq x).setPq y = s.setPq y := rfl

@[simp] theorem State.setPrt_por (x : List PrtEntry) : (s.setPrt x).por = s.por := rfl
@[simp] theorem State.setPrt_drstn (x : List PrtEntry) : (s.setPrt x).drstn = s.drstn := rfl
@[simp] theorem State.setPrt_ready (x : List PrtEntry) : (s.setPrt x).ready = s.ready := rfl
@[simp] theorem State.setPrt_refclkStopped (x : List PrtEntry) : (s.setPrt x).refclkStopped = s.refclkStopped := rfl
@[simp] theorem State.setPrt_busReset (x : List PrtEntry) : (s.setPrt x).busReset = s.busReset := rfl
@[simp] theorem State.setPrt_opState (x : List PrtEntry) : (s.setPrt x).opState = s.opState := rfl
@[simp] theorem State.setPrt_pq (x : List PrtEntry) : (s.setPrt x).pq = s.pq := rfl
@[simp] theorem State.setPrt_prt (x : List PrtEntry) : (s.setPrt x).prt = x := rfl
@[simp] theorem State.setPrt_tags (x : List PrtEntry) : (s.setPrt x).tags = s.tags := rfl
@[simp] theorem State.setPrt_lastGranted (x : List PrtEntry) : (s.setPrt x).lastGranted = s.lastGranted := rfl
@[simp] theorem State.setPrt_windows (x : List PrtEntry) : (s.setPrt x).windows = s.windows := rfl
@[simp] theorem State.setPrt_streams (x : List PrtEntry) : (s.setPrt x).streams = s.streams := rfl
@[simp] theorem State.setPrt_nq (x : List PrtEntry) : (s.setPrt x).nq = s.nq := rfl
@[simp] theorem State.setPrt_noticesLost (x : List PrtEntry) : (s.setPrt x).noticesLost = s.noticesLost := rfl
@[simp] theorem State.setPrt_el (x : List PrtEntry) : (s.setPrt x).el = s.el := rfl
@[simp] theorem State.setPrt_errorsLost (x : List PrtEntry) : (s.setPrt x).errorsLost = s.errorsLost := rfl
@[simp] theorem State.setPrt_counters (x : List PrtEntry) : (s.setPrt x).counters = s.counters := rfl
@[simp] theorem State.setPrt_timers (x : List PrtEntry) : (s.setPrt x).timers = s.timers := rfl
@[simp] theorem State.setPrt_reply (x : List PrtEntry) : (s.setPrt x).reply = s.reply := rfl
@[simp] theorem State.setPrt_frameInProgress (x : List PrtEntry) : (s.setPrt x).frameInProgress = s.frameInProgress := rfl
@[simp] theorem State.setPrt_tbCount (x : List PrtEntry) : (s.setPrt x).tbCount = s.tbCount := rfl
@[simp] theorem State.setPrt_held (x : List PrtEntry) : (s.setPrt x).held = s.held := rfl
@[simp] theorem State.setPrt_portWaiting (x : List PrtEntry) : (s.setPrt x).portWaiting = s.portWaiting := rfl
@[simp] theorem State.setPrt_cycleInputs (x : List PrtEntry) : (s.setPrt x).cycleInputs = s.cycleInputs := rfl
@[simp] theorem State.setPrt_answers (x : List PrtEntry) : (s.setPrt x).answers = s.answers := rfl
@[simp] theorem State.setPrt_requests (x : List PrtEntry) : (s.setPrt x).requests = s.requests := rfl
@[simp] theorem State.setPrt_misos (x : List PrtEntry) : (s.setPrt x).misos = s.misos := rfl
@[simp] theorem State.setPrt_nextId (x : List PrtEntry) : (s.setPrt x).nextId = s.nextId := rfl
@[simp] theorem State.setPrt_pending (x : List PrtEntry) : (s.setPrt x).pending = s.pending := rfl
@[simp] theorem State.setPrt_same : s.setPrt s.prt = s := rfl
@[simp] theorem State.setPrt_setPrt (x y : List PrtEntry) : (s.setPrt x).setPrt y = s.setPrt y := rfl

@[simp] theorem State.setTags_por (x : Vector Tag 16) : (s.setTags x).por = s.por := rfl
@[simp] theorem State.setTags_drstn (x : Vector Tag 16) : (s.setTags x).drstn = s.drstn := rfl
@[simp] theorem State.setTags_ready (x : Vector Tag 16) : (s.setTags x).ready = s.ready := rfl
@[simp] theorem State.setTags_refclkStopped (x : Vector Tag 16) : (s.setTags x).refclkStopped = s.refclkStopped := rfl
@[simp] theorem State.setTags_busReset (x : Vector Tag 16) : (s.setTags x).busReset = s.busReset := rfl
@[simp] theorem State.setTags_opState (x : Vector Tag 16) : (s.setTags x).opState = s.opState := rfl
@[simp] theorem State.setTags_pq (x : Vector Tag 16) : (s.setTags x).pq = s.pq := rfl
@[simp] theorem State.setTags_prt (x : Vector Tag 16) : (s.setTags x).prt = s.prt := rfl
@[simp] theorem State.setTags_tags (x : Vector Tag 16) : (s.setTags x).tags = x := rfl
@[simp] theorem State.setTags_lastGranted (x : Vector Tag 16) : (s.setTags x).lastGranted = s.lastGranted := rfl
@[simp] theorem State.setTags_windows (x : Vector Tag 16) : (s.setTags x).windows = s.windows := rfl
@[simp] theorem State.setTags_streams (x : Vector Tag 16) : (s.setTags x).streams = s.streams := rfl
@[simp] theorem State.setTags_nq (x : Vector Tag 16) : (s.setTags x).nq = s.nq := rfl
@[simp] theorem State.setTags_noticesLost (x : Vector Tag 16) : (s.setTags x).noticesLost = s.noticesLost := rfl
@[simp] theorem State.setTags_el (x : Vector Tag 16) : (s.setTags x).el = s.el := rfl
@[simp] theorem State.setTags_errorsLost (x : Vector Tag 16) : (s.setTags x).errorsLost = s.errorsLost := rfl
@[simp] theorem State.setTags_counters (x : Vector Tag 16) : (s.setTags x).counters = s.counters := rfl
@[simp] theorem State.setTags_timers (x : Vector Tag 16) : (s.setTags x).timers = s.timers := rfl
@[simp] theorem State.setTags_reply (x : Vector Tag 16) : (s.setTags x).reply = s.reply := rfl
@[simp] theorem State.setTags_frameInProgress (x : Vector Tag 16) : (s.setTags x).frameInProgress = s.frameInProgress := rfl
@[simp] theorem State.setTags_tbCount (x : Vector Tag 16) : (s.setTags x).tbCount = s.tbCount := rfl
@[simp] theorem State.setTags_held (x : Vector Tag 16) : (s.setTags x).held = s.held := rfl
@[simp] theorem State.setTags_portWaiting (x : Vector Tag 16) : (s.setTags x).portWaiting = s.portWaiting := rfl
@[simp] theorem State.setTags_cycleInputs (x : Vector Tag 16) : (s.setTags x).cycleInputs = s.cycleInputs := rfl
@[simp] theorem State.setTags_answers (x : Vector Tag 16) : (s.setTags x).answers = s.answers := rfl
@[simp] theorem State.setTags_requests (x : Vector Tag 16) : (s.setTags x).requests = s.requests := rfl
@[simp] theorem State.setTags_misos (x : Vector Tag 16) : (s.setTags x).misos = s.misos := rfl
@[simp] theorem State.setTags_nextId (x : Vector Tag 16) : (s.setTags x).nextId = s.nextId := rfl
@[simp] theorem State.setTags_pending (x : Vector Tag 16) : (s.setTags x).pending = s.pending := rfl
@[simp] theorem State.setTags_same : s.setTags s.tags = s := rfl
@[simp] theorem State.setTags_setTags (x y : Vector Tag 16) : (s.setTags x).setTags y = s.setTags y := rfl

@[simp] theorem State.setLastGranted_por (x : LinkClass) : (s.setLastGranted x).por = s.por := rfl
@[simp] theorem State.setLastGranted_drstn (x : LinkClass) : (s.setLastGranted x).drstn = s.drstn := rfl
@[simp] theorem State.setLastGranted_ready (x : LinkClass) : (s.setLastGranted x).ready = s.ready := rfl
@[simp] theorem State.setLastGranted_refclkStopped (x : LinkClass) : (s.setLastGranted x).refclkStopped = s.refclkStopped := rfl
@[simp] theorem State.setLastGranted_busReset (x : LinkClass) : (s.setLastGranted x).busReset = s.busReset := rfl
@[simp] theorem State.setLastGranted_opState (x : LinkClass) : (s.setLastGranted x).opState = s.opState := rfl
@[simp] theorem State.setLastGranted_pq (x : LinkClass) : (s.setLastGranted x).pq = s.pq := rfl
@[simp] theorem State.setLastGranted_prt (x : LinkClass) : (s.setLastGranted x).prt = s.prt := rfl
@[simp] theorem State.setLastGranted_tags (x : LinkClass) : (s.setLastGranted x).tags = s.tags := rfl
@[simp] theorem State.setLastGranted_lastGranted (x : LinkClass) : (s.setLastGranted x).lastGranted = x := rfl
@[simp] theorem State.setLastGranted_windows (x : LinkClass) : (s.setLastGranted x).windows = s.windows := rfl
@[simp] theorem State.setLastGranted_streams (x : LinkClass) : (s.setLastGranted x).streams = s.streams := rfl
@[simp] theorem State.setLastGranted_nq (x : LinkClass) : (s.setLastGranted x).nq = s.nq := rfl
@[simp] theorem State.setLastGranted_noticesLost (x : LinkClass) : (s.setLastGranted x).noticesLost = s.noticesLost := rfl
@[simp] theorem State.setLastGranted_el (x : LinkClass) : (s.setLastGranted x).el = s.el := rfl
@[simp] theorem State.setLastGranted_errorsLost (x : LinkClass) : (s.setLastGranted x).errorsLost = s.errorsLost := rfl
@[simp] theorem State.setLastGranted_counters (x : LinkClass) : (s.setLastGranted x).counters = s.counters := rfl
@[simp] theorem State.setLastGranted_timers (x : LinkClass) : (s.setLastGranted x).timers = s.timers := rfl
@[simp] theorem State.setLastGranted_reply (x : LinkClass) : (s.setLastGranted x).reply = s.reply := rfl
@[simp] theorem State.setLastGranted_frameInProgress (x : LinkClass) : (s.setLastGranted x).frameInProgress = s.frameInProgress := rfl
@[simp] theorem State.setLastGranted_tbCount (x : LinkClass) : (s.setLastGranted x).tbCount = s.tbCount := rfl
@[simp] theorem State.setLastGranted_held (x : LinkClass) : (s.setLastGranted x).held = s.held := rfl
@[simp] theorem State.setLastGranted_portWaiting (x : LinkClass) : (s.setLastGranted x).portWaiting = s.portWaiting := rfl
@[simp] theorem State.setLastGranted_cycleInputs (x : LinkClass) : (s.setLastGranted x).cycleInputs = s.cycleInputs := rfl
@[simp] theorem State.setLastGranted_answers (x : LinkClass) : (s.setLastGranted x).answers = s.answers := rfl
@[simp] theorem State.setLastGranted_requests (x : LinkClass) : (s.setLastGranted x).requests = s.requests := rfl
@[simp] theorem State.setLastGranted_misos (x : LinkClass) : (s.setLastGranted x).misos = s.misos := rfl
@[simp] theorem State.setLastGranted_nextId (x : LinkClass) : (s.setLastGranted x).nextId = s.nextId := rfl
@[simp] theorem State.setLastGranted_pending (x : LinkClass) : (s.setLastGranted x).pending = s.pending := rfl
@[simp] theorem State.setLastGranted_same : s.setLastGranted s.lastGranted = s := rfl
@[simp] theorem State.setLastGranted_setLastGranted (x y : LinkClass) : (s.setLastGranted x).setLastGranted y = s.setLastGranted y := rfl

@[simp] theorem State.setWindows_por (x : Vector Window 16) : (s.setWindows x).por = s.por := rfl
@[simp] theorem State.setWindows_drstn (x : Vector Window 16) : (s.setWindows x).drstn = s.drstn := rfl
@[simp] theorem State.setWindows_ready (x : Vector Window 16) : (s.setWindows x).ready = s.ready := rfl
@[simp] theorem State.setWindows_refclkStopped (x : Vector Window 16) : (s.setWindows x).refclkStopped = s.refclkStopped := rfl
@[simp] theorem State.setWindows_busReset (x : Vector Window 16) : (s.setWindows x).busReset = s.busReset := rfl
@[simp] theorem State.setWindows_opState (x : Vector Window 16) : (s.setWindows x).opState = s.opState := rfl
@[simp] theorem State.setWindows_pq (x : Vector Window 16) : (s.setWindows x).pq = s.pq := rfl
@[simp] theorem State.setWindows_prt (x : Vector Window 16) : (s.setWindows x).prt = s.prt := rfl
@[simp] theorem State.setWindows_tags (x : Vector Window 16) : (s.setWindows x).tags = s.tags := rfl
@[simp] theorem State.setWindows_lastGranted (x : Vector Window 16) : (s.setWindows x).lastGranted = s.lastGranted := rfl
@[simp] theorem State.setWindows_windows (x : Vector Window 16) : (s.setWindows x).windows = x := rfl
@[simp] theorem State.setWindows_streams (x : Vector Window 16) : (s.setWindows x).streams = s.streams := rfl
@[simp] theorem State.setWindows_nq (x : Vector Window 16) : (s.setWindows x).nq = s.nq := rfl
@[simp] theorem State.setWindows_noticesLost (x : Vector Window 16) : (s.setWindows x).noticesLost = s.noticesLost := rfl
@[simp] theorem State.setWindows_el (x : Vector Window 16) : (s.setWindows x).el = s.el := rfl
@[simp] theorem State.setWindows_errorsLost (x : Vector Window 16) : (s.setWindows x).errorsLost = s.errorsLost := rfl
@[simp] theorem State.setWindows_counters (x : Vector Window 16) : (s.setWindows x).counters = s.counters := rfl
@[simp] theorem State.setWindows_timers (x : Vector Window 16) : (s.setWindows x).timers = s.timers := rfl
@[simp] theorem State.setWindows_reply (x : Vector Window 16) : (s.setWindows x).reply = s.reply := rfl
@[simp] theorem State.setWindows_frameInProgress (x : Vector Window 16) : (s.setWindows x).frameInProgress = s.frameInProgress := rfl
@[simp] theorem State.setWindows_tbCount (x : Vector Window 16) : (s.setWindows x).tbCount = s.tbCount := rfl
@[simp] theorem State.setWindows_held (x : Vector Window 16) : (s.setWindows x).held = s.held := rfl
@[simp] theorem State.setWindows_portWaiting (x : Vector Window 16) : (s.setWindows x).portWaiting = s.portWaiting := rfl
@[simp] theorem State.setWindows_cycleInputs (x : Vector Window 16) : (s.setWindows x).cycleInputs = s.cycleInputs := rfl
@[simp] theorem State.setWindows_answers (x : Vector Window 16) : (s.setWindows x).answers = s.answers := rfl
@[simp] theorem State.setWindows_requests (x : Vector Window 16) : (s.setWindows x).requests = s.requests := rfl
@[simp] theorem State.setWindows_misos (x : Vector Window 16) : (s.setWindows x).misos = s.misos := rfl
@[simp] theorem State.setWindows_nextId (x : Vector Window 16) : (s.setWindows x).nextId = s.nextId := rfl
@[simp] theorem State.setWindows_pending (x : Vector Window 16) : (s.setWindows x).pending = s.pending := rfl
@[simp] theorem State.setWindows_same : s.setWindows s.windows = s := rfl
@[simp] theorem State.setWindows_setWindows (x y : Vector Window 16) : (s.setWindows x).setWindows y = s.setWindows y := rfl

@[simp] theorem State.setStreams_por (x : Vector StreamRecord 8) : (s.setStreams x).por = s.por := rfl
@[simp] theorem State.setStreams_drstn (x : Vector StreamRecord 8) : (s.setStreams x).drstn = s.drstn := rfl
@[simp] theorem State.setStreams_ready (x : Vector StreamRecord 8) : (s.setStreams x).ready = s.ready := rfl
@[simp] theorem State.setStreams_refclkStopped (x : Vector StreamRecord 8) : (s.setStreams x).refclkStopped = s.refclkStopped := rfl
@[simp] theorem State.setStreams_busReset (x : Vector StreamRecord 8) : (s.setStreams x).busReset = s.busReset := rfl
@[simp] theorem State.setStreams_opState (x : Vector StreamRecord 8) : (s.setStreams x).opState = s.opState := rfl
@[simp] theorem State.setStreams_pq (x : Vector StreamRecord 8) : (s.setStreams x).pq = s.pq := rfl
@[simp] theorem State.setStreams_prt (x : Vector StreamRecord 8) : (s.setStreams x).prt = s.prt := rfl
@[simp] theorem State.setStreams_tags (x : Vector StreamRecord 8) : (s.setStreams x).tags = s.tags := rfl
@[simp] theorem State.setStreams_lastGranted (x : Vector StreamRecord 8) : (s.setStreams x).lastGranted = s.lastGranted := rfl
@[simp] theorem State.setStreams_windows (x : Vector StreamRecord 8) : (s.setStreams x).windows = s.windows := rfl
@[simp] theorem State.setStreams_streams (x : Vector StreamRecord 8) : (s.setStreams x).streams = x := rfl
@[simp] theorem State.setStreams_nq (x : Vector StreamRecord 8) : (s.setStreams x).nq = s.nq := rfl
@[simp] theorem State.setStreams_noticesLost (x : Vector StreamRecord 8) : (s.setStreams x).noticesLost = s.noticesLost := rfl
@[simp] theorem State.setStreams_el (x : Vector StreamRecord 8) : (s.setStreams x).el = s.el := rfl
@[simp] theorem State.setStreams_errorsLost (x : Vector StreamRecord 8) : (s.setStreams x).errorsLost = s.errorsLost := rfl
@[simp] theorem State.setStreams_counters (x : Vector StreamRecord 8) : (s.setStreams x).counters = s.counters := rfl
@[simp] theorem State.setStreams_timers (x : Vector StreamRecord 8) : (s.setStreams x).timers = s.timers := rfl
@[simp] theorem State.setStreams_reply (x : Vector StreamRecord 8) : (s.setStreams x).reply = s.reply := rfl
@[simp] theorem State.setStreams_frameInProgress (x : Vector StreamRecord 8) : (s.setStreams x).frameInProgress = s.frameInProgress := rfl
@[simp] theorem State.setStreams_tbCount (x : Vector StreamRecord 8) : (s.setStreams x).tbCount = s.tbCount := rfl
@[simp] theorem State.setStreams_held (x : Vector StreamRecord 8) : (s.setStreams x).held = s.held := rfl
@[simp] theorem State.setStreams_portWaiting (x : Vector StreamRecord 8) : (s.setStreams x).portWaiting = s.portWaiting := rfl
@[simp] theorem State.setStreams_cycleInputs (x : Vector StreamRecord 8) : (s.setStreams x).cycleInputs = s.cycleInputs := rfl
@[simp] theorem State.setStreams_answers (x : Vector StreamRecord 8) : (s.setStreams x).answers = s.answers := rfl
@[simp] theorem State.setStreams_requests (x : Vector StreamRecord 8) : (s.setStreams x).requests = s.requests := rfl
@[simp] theorem State.setStreams_misos (x : Vector StreamRecord 8) : (s.setStreams x).misos = s.misos := rfl
@[simp] theorem State.setStreams_nextId (x : Vector StreamRecord 8) : (s.setStreams x).nextId = s.nextId := rfl
@[simp] theorem State.setStreams_pending (x : Vector StreamRecord 8) : (s.setStreams x).pending = s.pending := rfl
@[simp] theorem State.setStreams_same : s.setStreams s.streams = s := rfl
@[simp] theorem State.setStreams_setStreams (x y : Vector StreamRecord 8) : (s.setStreams x).setStreams y = s.setStreams y := rfl

@[simp] theorem State.setNq_por (x : List Notice) : (s.setNq x).por = s.por := rfl
@[simp] theorem State.setNq_drstn (x : List Notice) : (s.setNq x).drstn = s.drstn := rfl
@[simp] theorem State.setNq_ready (x : List Notice) : (s.setNq x).ready = s.ready := rfl
@[simp] theorem State.setNq_refclkStopped (x : List Notice) : (s.setNq x).refclkStopped = s.refclkStopped := rfl
@[simp] theorem State.setNq_busReset (x : List Notice) : (s.setNq x).busReset = s.busReset := rfl
@[simp] theorem State.setNq_opState (x : List Notice) : (s.setNq x).opState = s.opState := rfl
@[simp] theorem State.setNq_pq (x : List Notice) : (s.setNq x).pq = s.pq := rfl
@[simp] theorem State.setNq_prt (x : List Notice) : (s.setNq x).prt = s.prt := rfl
@[simp] theorem State.setNq_tags (x : List Notice) : (s.setNq x).tags = s.tags := rfl
@[simp] theorem State.setNq_lastGranted (x : List Notice) : (s.setNq x).lastGranted = s.lastGranted := rfl
@[simp] theorem State.setNq_windows (x : List Notice) : (s.setNq x).windows = s.windows := rfl
@[simp] theorem State.setNq_streams (x : List Notice) : (s.setNq x).streams = s.streams := rfl
@[simp] theorem State.setNq_nq (x : List Notice) : (s.setNq x).nq = x := rfl
@[simp] theorem State.setNq_noticesLost (x : List Notice) : (s.setNq x).noticesLost = s.noticesLost := rfl
@[simp] theorem State.setNq_el (x : List Notice) : (s.setNq x).el = s.el := rfl
@[simp] theorem State.setNq_errorsLost (x : List Notice) : (s.setNq x).errorsLost = s.errorsLost := rfl
@[simp] theorem State.setNq_counters (x : List Notice) : (s.setNq x).counters = s.counters := rfl
@[simp] theorem State.setNq_timers (x : List Notice) : (s.setNq x).timers = s.timers := rfl
@[simp] theorem State.setNq_reply (x : List Notice) : (s.setNq x).reply = s.reply := rfl
@[simp] theorem State.setNq_frameInProgress (x : List Notice) : (s.setNq x).frameInProgress = s.frameInProgress := rfl
@[simp] theorem State.setNq_tbCount (x : List Notice) : (s.setNq x).tbCount = s.tbCount := rfl
@[simp] theorem State.setNq_held (x : List Notice) : (s.setNq x).held = s.held := rfl
@[simp] theorem State.setNq_portWaiting (x : List Notice) : (s.setNq x).portWaiting = s.portWaiting := rfl
@[simp] theorem State.setNq_cycleInputs (x : List Notice) : (s.setNq x).cycleInputs = s.cycleInputs := rfl
@[simp] theorem State.setNq_answers (x : List Notice) : (s.setNq x).answers = s.answers := rfl
@[simp] theorem State.setNq_requests (x : List Notice) : (s.setNq x).requests = s.requests := rfl
@[simp] theorem State.setNq_misos (x : List Notice) : (s.setNq x).misos = s.misos := rfl
@[simp] theorem State.setNq_nextId (x : List Notice) : (s.setNq x).nextId = s.nextId := rfl
@[simp] theorem State.setNq_pending (x : List Notice) : (s.setNq x).pending = s.pending := rfl
@[simp] theorem State.setNq_same : s.setNq s.nq = s := rfl
@[simp] theorem State.setNq_setNq (x y : List Notice) : (s.setNq x).setNq y = s.setNq y := rfl

@[simp] theorem State.setNoticesLost_por (x : Nat) : (s.setNoticesLost x).por = s.por := rfl
@[simp] theorem State.setNoticesLost_drstn (x : Nat) : (s.setNoticesLost x).drstn = s.drstn := rfl
@[simp] theorem State.setNoticesLost_ready (x : Nat) : (s.setNoticesLost x).ready = s.ready := rfl
@[simp] theorem State.setNoticesLost_refclkStopped (x : Nat) : (s.setNoticesLost x).refclkStopped = s.refclkStopped := rfl
@[simp] theorem State.setNoticesLost_busReset (x : Nat) : (s.setNoticesLost x).busReset = s.busReset := rfl
@[simp] theorem State.setNoticesLost_opState (x : Nat) : (s.setNoticesLost x).opState = s.opState := rfl
@[simp] theorem State.setNoticesLost_pq (x : Nat) : (s.setNoticesLost x).pq = s.pq := rfl
@[simp] theorem State.setNoticesLost_prt (x : Nat) : (s.setNoticesLost x).prt = s.prt := rfl
@[simp] theorem State.setNoticesLost_tags (x : Nat) : (s.setNoticesLost x).tags = s.tags := rfl
@[simp] theorem State.setNoticesLost_lastGranted (x : Nat) : (s.setNoticesLost x).lastGranted = s.lastGranted := rfl
@[simp] theorem State.setNoticesLost_windows (x : Nat) : (s.setNoticesLost x).windows = s.windows := rfl
@[simp] theorem State.setNoticesLost_streams (x : Nat) : (s.setNoticesLost x).streams = s.streams := rfl
@[simp] theorem State.setNoticesLost_nq (x : Nat) : (s.setNoticesLost x).nq = s.nq := rfl
@[simp] theorem State.setNoticesLost_noticesLost (x : Nat) : (s.setNoticesLost x).noticesLost = x := rfl
@[simp] theorem State.setNoticesLost_el (x : Nat) : (s.setNoticesLost x).el = s.el := rfl
@[simp] theorem State.setNoticesLost_errorsLost (x : Nat) : (s.setNoticesLost x).errorsLost = s.errorsLost := rfl
@[simp] theorem State.setNoticesLost_counters (x : Nat) : (s.setNoticesLost x).counters = s.counters := rfl
@[simp] theorem State.setNoticesLost_timers (x : Nat) : (s.setNoticesLost x).timers = s.timers := rfl
@[simp] theorem State.setNoticesLost_reply (x : Nat) : (s.setNoticesLost x).reply = s.reply := rfl
@[simp] theorem State.setNoticesLost_frameInProgress (x : Nat) : (s.setNoticesLost x).frameInProgress = s.frameInProgress := rfl
@[simp] theorem State.setNoticesLost_tbCount (x : Nat) : (s.setNoticesLost x).tbCount = s.tbCount := rfl
@[simp] theorem State.setNoticesLost_held (x : Nat) : (s.setNoticesLost x).held = s.held := rfl
@[simp] theorem State.setNoticesLost_portWaiting (x : Nat) : (s.setNoticesLost x).portWaiting = s.portWaiting := rfl
@[simp] theorem State.setNoticesLost_cycleInputs (x : Nat) : (s.setNoticesLost x).cycleInputs = s.cycleInputs := rfl
@[simp] theorem State.setNoticesLost_answers (x : Nat) : (s.setNoticesLost x).answers = s.answers := rfl
@[simp] theorem State.setNoticesLost_requests (x : Nat) : (s.setNoticesLost x).requests = s.requests := rfl
@[simp] theorem State.setNoticesLost_misos (x : Nat) : (s.setNoticesLost x).misos = s.misos := rfl
@[simp] theorem State.setNoticesLost_nextId (x : Nat) : (s.setNoticesLost x).nextId = s.nextId := rfl
@[simp] theorem State.setNoticesLost_pending (x : Nat) : (s.setNoticesLost x).pending = s.pending := rfl
@[simp] theorem State.setNoticesLost_same : s.setNoticesLost s.noticesLost = s := rfl
@[simp] theorem State.setNoticesLost_setNoticesLost (x y : Nat) : (s.setNoticesLost x).setNoticesLost y = s.setNoticesLost y := rfl

@[simp] theorem State.setEl_por (x : List ErrorRecord) : (s.setEl x).por = s.por := rfl
@[simp] theorem State.setEl_drstn (x : List ErrorRecord) : (s.setEl x).drstn = s.drstn := rfl
@[simp] theorem State.setEl_ready (x : List ErrorRecord) : (s.setEl x).ready = s.ready := rfl
@[simp] theorem State.setEl_refclkStopped (x : List ErrorRecord) : (s.setEl x).refclkStopped = s.refclkStopped := rfl
@[simp] theorem State.setEl_busReset (x : List ErrorRecord) : (s.setEl x).busReset = s.busReset := rfl
@[simp] theorem State.setEl_opState (x : List ErrorRecord) : (s.setEl x).opState = s.opState := rfl
@[simp] theorem State.setEl_pq (x : List ErrorRecord) : (s.setEl x).pq = s.pq := rfl
@[simp] theorem State.setEl_prt (x : List ErrorRecord) : (s.setEl x).prt = s.prt := rfl
@[simp] theorem State.setEl_tags (x : List ErrorRecord) : (s.setEl x).tags = s.tags := rfl
@[simp] theorem State.setEl_lastGranted (x : List ErrorRecord) : (s.setEl x).lastGranted = s.lastGranted := rfl
@[simp] theorem State.setEl_windows (x : List ErrorRecord) : (s.setEl x).windows = s.windows := rfl
@[simp] theorem State.setEl_streams (x : List ErrorRecord) : (s.setEl x).streams = s.streams := rfl
@[simp] theorem State.setEl_nq (x : List ErrorRecord) : (s.setEl x).nq = s.nq := rfl
@[simp] theorem State.setEl_noticesLost (x : List ErrorRecord) : (s.setEl x).noticesLost = s.noticesLost := rfl
@[simp] theorem State.setEl_el (x : List ErrorRecord) : (s.setEl x).el = x := rfl
@[simp] theorem State.setEl_errorsLost (x : List ErrorRecord) : (s.setEl x).errorsLost = s.errorsLost := rfl
@[simp] theorem State.setEl_counters (x : List ErrorRecord) : (s.setEl x).counters = s.counters := rfl
@[simp] theorem State.setEl_timers (x : List ErrorRecord) : (s.setEl x).timers = s.timers := rfl
@[simp] theorem State.setEl_reply (x : List ErrorRecord) : (s.setEl x).reply = s.reply := rfl
@[simp] theorem State.setEl_frameInProgress (x : List ErrorRecord) : (s.setEl x).frameInProgress = s.frameInProgress := rfl
@[simp] theorem State.setEl_tbCount (x : List ErrorRecord) : (s.setEl x).tbCount = s.tbCount := rfl
@[simp] theorem State.setEl_held (x : List ErrorRecord) : (s.setEl x).held = s.held := rfl
@[simp] theorem State.setEl_portWaiting (x : List ErrorRecord) : (s.setEl x).portWaiting = s.portWaiting := rfl
@[simp] theorem State.setEl_cycleInputs (x : List ErrorRecord) : (s.setEl x).cycleInputs = s.cycleInputs := rfl
@[simp] theorem State.setEl_answers (x : List ErrorRecord) : (s.setEl x).answers = s.answers := rfl
@[simp] theorem State.setEl_requests (x : List ErrorRecord) : (s.setEl x).requests = s.requests := rfl
@[simp] theorem State.setEl_misos (x : List ErrorRecord) : (s.setEl x).misos = s.misos := rfl
@[simp] theorem State.setEl_nextId (x : List ErrorRecord) : (s.setEl x).nextId = s.nextId := rfl
@[simp] theorem State.setEl_pending (x : List ErrorRecord) : (s.setEl x).pending = s.pending := rfl
@[simp] theorem State.setEl_same : s.setEl s.el = s := rfl
@[simp] theorem State.setEl_setEl (x y : List ErrorRecord) : (s.setEl x).setEl y = s.setEl y := rfl

@[simp] theorem State.setErrorsLost_por (x : Nat) : (s.setErrorsLost x).por = s.por := rfl
@[simp] theorem State.setErrorsLost_drstn (x : Nat) : (s.setErrorsLost x).drstn = s.drstn := rfl
@[simp] theorem State.setErrorsLost_ready (x : Nat) : (s.setErrorsLost x).ready = s.ready := rfl
@[simp] theorem State.setErrorsLost_refclkStopped (x : Nat) : (s.setErrorsLost x).refclkStopped = s.refclkStopped := rfl
@[simp] theorem State.setErrorsLost_busReset (x : Nat) : (s.setErrorsLost x).busReset = s.busReset := rfl
@[simp] theorem State.setErrorsLost_opState (x : Nat) : (s.setErrorsLost x).opState = s.opState := rfl
@[simp] theorem State.setErrorsLost_pq (x : Nat) : (s.setErrorsLost x).pq = s.pq := rfl
@[simp] theorem State.setErrorsLost_prt (x : Nat) : (s.setErrorsLost x).prt = s.prt := rfl
@[simp] theorem State.setErrorsLost_tags (x : Nat) : (s.setErrorsLost x).tags = s.tags := rfl
@[simp] theorem State.setErrorsLost_lastGranted (x : Nat) : (s.setErrorsLost x).lastGranted = s.lastGranted := rfl
@[simp] theorem State.setErrorsLost_windows (x : Nat) : (s.setErrorsLost x).windows = s.windows := rfl
@[simp] theorem State.setErrorsLost_streams (x : Nat) : (s.setErrorsLost x).streams = s.streams := rfl
@[simp] theorem State.setErrorsLost_nq (x : Nat) : (s.setErrorsLost x).nq = s.nq := rfl
@[simp] theorem State.setErrorsLost_noticesLost (x : Nat) : (s.setErrorsLost x).noticesLost = s.noticesLost := rfl
@[simp] theorem State.setErrorsLost_el (x : Nat) : (s.setErrorsLost x).el = s.el := rfl
@[simp] theorem State.setErrorsLost_errorsLost (x : Nat) : (s.setErrorsLost x).errorsLost = x := rfl
@[simp] theorem State.setErrorsLost_counters (x : Nat) : (s.setErrorsLost x).counters = s.counters := rfl
@[simp] theorem State.setErrorsLost_timers (x : Nat) : (s.setErrorsLost x).timers = s.timers := rfl
@[simp] theorem State.setErrorsLost_reply (x : Nat) : (s.setErrorsLost x).reply = s.reply := rfl
@[simp] theorem State.setErrorsLost_frameInProgress (x : Nat) : (s.setErrorsLost x).frameInProgress = s.frameInProgress := rfl
@[simp] theorem State.setErrorsLost_tbCount (x : Nat) : (s.setErrorsLost x).tbCount = s.tbCount := rfl
@[simp] theorem State.setErrorsLost_held (x : Nat) : (s.setErrorsLost x).held = s.held := rfl
@[simp] theorem State.setErrorsLost_portWaiting (x : Nat) : (s.setErrorsLost x).portWaiting = s.portWaiting := rfl
@[simp] theorem State.setErrorsLost_cycleInputs (x : Nat) : (s.setErrorsLost x).cycleInputs = s.cycleInputs := rfl
@[simp] theorem State.setErrorsLost_answers (x : Nat) : (s.setErrorsLost x).answers = s.answers := rfl
@[simp] theorem State.setErrorsLost_requests (x : Nat) : (s.setErrorsLost x).requests = s.requests := rfl
@[simp] theorem State.setErrorsLost_misos (x : Nat) : (s.setErrorsLost x).misos = s.misos := rfl
@[simp] theorem State.setErrorsLost_nextId (x : Nat) : (s.setErrorsLost x).nextId = s.nextId := rfl
@[simp] theorem State.setErrorsLost_pending (x : Nat) : (s.setErrorsLost x).pending = s.pending := rfl
@[simp] theorem State.setErrorsLost_same : s.setErrorsLost s.errorsLost = s := rfl
@[simp] theorem State.setErrorsLost_setErrorsLost (x y : Nat) : (s.setErrorsLost x).setErrorsLost y = s.setErrorsLost y := rfl

@[simp] theorem State.setCounters_por (x : Vector Nat 19) : (s.setCounters x).por = s.por := rfl
@[simp] theorem State.setCounters_drstn (x : Vector Nat 19) : (s.setCounters x).drstn = s.drstn := rfl
@[simp] theorem State.setCounters_ready (x : Vector Nat 19) : (s.setCounters x).ready = s.ready := rfl
@[simp] theorem State.setCounters_refclkStopped (x : Vector Nat 19) : (s.setCounters x).refclkStopped = s.refclkStopped := rfl
@[simp] theorem State.setCounters_busReset (x : Vector Nat 19) : (s.setCounters x).busReset = s.busReset := rfl
@[simp] theorem State.setCounters_opState (x : Vector Nat 19) : (s.setCounters x).opState = s.opState := rfl
@[simp] theorem State.setCounters_pq (x : Vector Nat 19) : (s.setCounters x).pq = s.pq := rfl
@[simp] theorem State.setCounters_prt (x : Vector Nat 19) : (s.setCounters x).prt = s.prt := rfl
@[simp] theorem State.setCounters_tags (x : Vector Nat 19) : (s.setCounters x).tags = s.tags := rfl
@[simp] theorem State.setCounters_lastGranted (x : Vector Nat 19) : (s.setCounters x).lastGranted = s.lastGranted := rfl
@[simp] theorem State.setCounters_windows (x : Vector Nat 19) : (s.setCounters x).windows = s.windows := rfl
@[simp] theorem State.setCounters_streams (x : Vector Nat 19) : (s.setCounters x).streams = s.streams := rfl
@[simp] theorem State.setCounters_nq (x : Vector Nat 19) : (s.setCounters x).nq = s.nq := rfl
@[simp] theorem State.setCounters_noticesLost (x : Vector Nat 19) : (s.setCounters x).noticesLost = s.noticesLost := rfl
@[simp] theorem State.setCounters_el (x : Vector Nat 19) : (s.setCounters x).el = s.el := rfl
@[simp] theorem State.setCounters_errorsLost (x : Vector Nat 19) : (s.setCounters x).errorsLost = s.errorsLost := rfl
@[simp] theorem State.setCounters_counters (x : Vector Nat 19) : (s.setCounters x).counters = x := rfl
@[simp] theorem State.setCounters_timers (x : Vector Nat 19) : (s.setCounters x).timers = s.timers := rfl
@[simp] theorem State.setCounters_reply (x : Vector Nat 19) : (s.setCounters x).reply = s.reply := rfl
@[simp] theorem State.setCounters_frameInProgress (x : Vector Nat 19) : (s.setCounters x).frameInProgress = s.frameInProgress := rfl
@[simp] theorem State.setCounters_tbCount (x : Vector Nat 19) : (s.setCounters x).tbCount = s.tbCount := rfl
@[simp] theorem State.setCounters_held (x : Vector Nat 19) : (s.setCounters x).held = s.held := rfl
@[simp] theorem State.setCounters_portWaiting (x : Vector Nat 19) : (s.setCounters x).portWaiting = s.portWaiting := rfl
@[simp] theorem State.setCounters_cycleInputs (x : Vector Nat 19) : (s.setCounters x).cycleInputs = s.cycleInputs := rfl
@[simp] theorem State.setCounters_answers (x : Vector Nat 19) : (s.setCounters x).answers = s.answers := rfl
@[simp] theorem State.setCounters_requests (x : Vector Nat 19) : (s.setCounters x).requests = s.requests := rfl
@[simp] theorem State.setCounters_misos (x : Vector Nat 19) : (s.setCounters x).misos = s.misos := rfl
@[simp] theorem State.setCounters_nextId (x : Vector Nat 19) : (s.setCounters x).nextId = s.nextId := rfl
@[simp] theorem State.setCounters_pending (x : Vector Nat 19) : (s.setCounters x).pending = s.pending := rfl
@[simp] theorem State.setCounters_same : s.setCounters s.counters = s := rfl
@[simp] theorem State.setCounters_setCounters (x y : Vector Nat 19) : (s.setCounters x).setCounters y = s.setCounters y := rfl

@[simp] theorem State.setTimers_por (x : TimerItems) : (s.setTimers x).por = s.por := rfl
@[simp] theorem State.setTimers_drstn (x : TimerItems) : (s.setTimers x).drstn = s.drstn := rfl
@[simp] theorem State.setTimers_ready (x : TimerItems) : (s.setTimers x).ready = s.ready := rfl
@[simp] theorem State.setTimers_refclkStopped (x : TimerItems) : (s.setTimers x).refclkStopped = s.refclkStopped := rfl
@[simp] theorem State.setTimers_busReset (x : TimerItems) : (s.setTimers x).busReset = s.busReset := rfl
@[simp] theorem State.setTimers_opState (x : TimerItems) : (s.setTimers x).opState = s.opState := rfl
@[simp] theorem State.setTimers_pq (x : TimerItems) : (s.setTimers x).pq = s.pq := rfl
@[simp] theorem State.setTimers_prt (x : TimerItems) : (s.setTimers x).prt = s.prt := rfl
@[simp] theorem State.setTimers_tags (x : TimerItems) : (s.setTimers x).tags = s.tags := rfl
@[simp] theorem State.setTimers_lastGranted (x : TimerItems) : (s.setTimers x).lastGranted = s.lastGranted := rfl
@[simp] theorem State.setTimers_windows (x : TimerItems) : (s.setTimers x).windows = s.windows := rfl
@[simp] theorem State.setTimers_streams (x : TimerItems) : (s.setTimers x).streams = s.streams := rfl
@[simp] theorem State.setTimers_nq (x : TimerItems) : (s.setTimers x).nq = s.nq := rfl
@[simp] theorem State.setTimers_noticesLost (x : TimerItems) : (s.setTimers x).noticesLost = s.noticesLost := rfl
@[simp] theorem State.setTimers_el (x : TimerItems) : (s.setTimers x).el = s.el := rfl
@[simp] theorem State.setTimers_errorsLost (x : TimerItems) : (s.setTimers x).errorsLost = s.errorsLost := rfl
@[simp] theorem State.setTimers_counters (x : TimerItems) : (s.setTimers x).counters = s.counters := rfl
@[simp] theorem State.setTimers_timers (x : TimerItems) : (s.setTimers x).timers = x := rfl
@[simp] theorem State.setTimers_reply (x : TimerItems) : (s.setTimers x).reply = s.reply := rfl
@[simp] theorem State.setTimers_frameInProgress (x : TimerItems) : (s.setTimers x).frameInProgress = s.frameInProgress := rfl
@[simp] theorem State.setTimers_tbCount (x : TimerItems) : (s.setTimers x).tbCount = s.tbCount := rfl
@[simp] theorem State.setTimers_held (x : TimerItems) : (s.setTimers x).held = s.held := rfl
@[simp] theorem State.setTimers_portWaiting (x : TimerItems) : (s.setTimers x).portWaiting = s.portWaiting := rfl
@[simp] theorem State.setTimers_cycleInputs (x : TimerItems) : (s.setTimers x).cycleInputs = s.cycleInputs := rfl
@[simp] theorem State.setTimers_answers (x : TimerItems) : (s.setTimers x).answers = s.answers := rfl
@[simp] theorem State.setTimers_requests (x : TimerItems) : (s.setTimers x).requests = s.requests := rfl
@[simp] theorem State.setTimers_misos (x : TimerItems) : (s.setTimers x).misos = s.misos := rfl
@[simp] theorem State.setTimers_nextId (x : TimerItems) : (s.setTimers x).nextId = s.nextId := rfl
@[simp] theorem State.setTimers_pending (x : TimerItems) : (s.setTimers x).pending = s.pending := rfl
@[simp] theorem State.setTimers_same : s.setTimers s.timers = s := rfl
@[simp] theorem State.setTimers_setTimers (x y : TimerItems) : (s.setTimers x).setTimers y = s.setTimers y := rfl

@[simp] theorem State.setReply_por (x : Reply) : (s.setReply x).por = s.por := rfl
@[simp] theorem State.setReply_drstn (x : Reply) : (s.setReply x).drstn = s.drstn := rfl
@[simp] theorem State.setReply_ready (x : Reply) : (s.setReply x).ready = s.ready := rfl
@[simp] theorem State.setReply_refclkStopped (x : Reply) : (s.setReply x).refclkStopped = s.refclkStopped := rfl
@[simp] theorem State.setReply_busReset (x : Reply) : (s.setReply x).busReset = s.busReset := rfl
@[simp] theorem State.setReply_opState (x : Reply) : (s.setReply x).opState = s.opState := rfl
@[simp] theorem State.setReply_pq (x : Reply) : (s.setReply x).pq = s.pq := rfl
@[simp] theorem State.setReply_prt (x : Reply) : (s.setReply x).prt = s.prt := rfl
@[simp] theorem State.setReply_tags (x : Reply) : (s.setReply x).tags = s.tags := rfl
@[simp] theorem State.setReply_lastGranted (x : Reply) : (s.setReply x).lastGranted = s.lastGranted := rfl
@[simp] theorem State.setReply_windows (x : Reply) : (s.setReply x).windows = s.windows := rfl
@[simp] theorem State.setReply_streams (x : Reply) : (s.setReply x).streams = s.streams := rfl
@[simp] theorem State.setReply_nq (x : Reply) : (s.setReply x).nq = s.nq := rfl
@[simp] theorem State.setReply_noticesLost (x : Reply) : (s.setReply x).noticesLost = s.noticesLost := rfl
@[simp] theorem State.setReply_el (x : Reply) : (s.setReply x).el = s.el := rfl
@[simp] theorem State.setReply_errorsLost (x : Reply) : (s.setReply x).errorsLost = s.errorsLost := rfl
@[simp] theorem State.setReply_counters (x : Reply) : (s.setReply x).counters = s.counters := rfl
@[simp] theorem State.setReply_timers (x : Reply) : (s.setReply x).timers = s.timers := rfl
@[simp] theorem State.setReply_reply (x : Reply) : (s.setReply x).reply = x := rfl
@[simp] theorem State.setReply_frameInProgress (x : Reply) : (s.setReply x).frameInProgress = s.frameInProgress := rfl
@[simp] theorem State.setReply_tbCount (x : Reply) : (s.setReply x).tbCount = s.tbCount := rfl
@[simp] theorem State.setReply_held (x : Reply) : (s.setReply x).held = s.held := rfl
@[simp] theorem State.setReply_portWaiting (x : Reply) : (s.setReply x).portWaiting = s.portWaiting := rfl
@[simp] theorem State.setReply_cycleInputs (x : Reply) : (s.setReply x).cycleInputs = s.cycleInputs := rfl
@[simp] theorem State.setReply_answers (x : Reply) : (s.setReply x).answers = s.answers := rfl
@[simp] theorem State.setReply_requests (x : Reply) : (s.setReply x).requests = s.requests := rfl
@[simp] theorem State.setReply_misos (x : Reply) : (s.setReply x).misos = s.misos := rfl
@[simp] theorem State.setReply_nextId (x : Reply) : (s.setReply x).nextId = s.nextId := rfl
@[simp] theorem State.setReply_pending (x : Reply) : (s.setReply x).pending = s.pending := rfl
@[simp] theorem State.setReply_same : s.setReply s.reply = s := rfl
@[simp] theorem State.setReply_setReply (x y : Reply) : (s.setReply x).setReply y = s.setReply y := rfl

@[simp] theorem State.setFrameInProgress_por (x : FrameProgress) : (s.setFrameInProgress x).por = s.por := rfl
@[simp] theorem State.setFrameInProgress_drstn (x : FrameProgress) : (s.setFrameInProgress x).drstn = s.drstn := rfl
@[simp] theorem State.setFrameInProgress_ready (x : FrameProgress) : (s.setFrameInProgress x).ready = s.ready := rfl
@[simp] theorem State.setFrameInProgress_refclkStopped (x : FrameProgress) : (s.setFrameInProgress x).refclkStopped = s.refclkStopped := rfl
@[simp] theorem State.setFrameInProgress_busReset (x : FrameProgress) : (s.setFrameInProgress x).busReset = s.busReset := rfl
@[simp] theorem State.setFrameInProgress_opState (x : FrameProgress) : (s.setFrameInProgress x).opState = s.opState := rfl
@[simp] theorem State.setFrameInProgress_pq (x : FrameProgress) : (s.setFrameInProgress x).pq = s.pq := rfl
@[simp] theorem State.setFrameInProgress_prt (x : FrameProgress) : (s.setFrameInProgress x).prt = s.prt := rfl
@[simp] theorem State.setFrameInProgress_tags (x : FrameProgress) : (s.setFrameInProgress x).tags = s.tags := rfl
@[simp] theorem State.setFrameInProgress_lastGranted (x : FrameProgress) : (s.setFrameInProgress x).lastGranted = s.lastGranted := rfl
@[simp] theorem State.setFrameInProgress_windows (x : FrameProgress) : (s.setFrameInProgress x).windows = s.windows := rfl
@[simp] theorem State.setFrameInProgress_streams (x : FrameProgress) : (s.setFrameInProgress x).streams = s.streams := rfl
@[simp] theorem State.setFrameInProgress_nq (x : FrameProgress) : (s.setFrameInProgress x).nq = s.nq := rfl
@[simp] theorem State.setFrameInProgress_noticesLost (x : FrameProgress) : (s.setFrameInProgress x).noticesLost = s.noticesLost := rfl
@[simp] theorem State.setFrameInProgress_el (x : FrameProgress) : (s.setFrameInProgress x).el = s.el := rfl
@[simp] theorem State.setFrameInProgress_errorsLost (x : FrameProgress) : (s.setFrameInProgress x).errorsLost = s.errorsLost := rfl
@[simp] theorem State.setFrameInProgress_counters (x : FrameProgress) : (s.setFrameInProgress x).counters = s.counters := rfl
@[simp] theorem State.setFrameInProgress_timers (x : FrameProgress) : (s.setFrameInProgress x).timers = s.timers := rfl
@[simp] theorem State.setFrameInProgress_reply (x : FrameProgress) : (s.setFrameInProgress x).reply = s.reply := rfl
@[simp] theorem State.setFrameInProgress_frameInProgress (x : FrameProgress) : (s.setFrameInProgress x).frameInProgress = x := rfl
@[simp] theorem State.setFrameInProgress_tbCount (x : FrameProgress) : (s.setFrameInProgress x).tbCount = s.tbCount := rfl
@[simp] theorem State.setFrameInProgress_held (x : FrameProgress) : (s.setFrameInProgress x).held = s.held := rfl
@[simp] theorem State.setFrameInProgress_portWaiting (x : FrameProgress) : (s.setFrameInProgress x).portWaiting = s.portWaiting := rfl
@[simp] theorem State.setFrameInProgress_cycleInputs (x : FrameProgress) : (s.setFrameInProgress x).cycleInputs = s.cycleInputs := rfl
@[simp] theorem State.setFrameInProgress_answers (x : FrameProgress) : (s.setFrameInProgress x).answers = s.answers := rfl
@[simp] theorem State.setFrameInProgress_requests (x : FrameProgress) : (s.setFrameInProgress x).requests = s.requests := rfl
@[simp] theorem State.setFrameInProgress_misos (x : FrameProgress) : (s.setFrameInProgress x).misos = s.misos := rfl
@[simp] theorem State.setFrameInProgress_nextId (x : FrameProgress) : (s.setFrameInProgress x).nextId = s.nextId := rfl
@[simp] theorem State.setFrameInProgress_pending (x : FrameProgress) : (s.setFrameInProgress x).pending = s.pending := rfl
@[simp] theorem State.setFrameInProgress_same : s.setFrameInProgress s.frameInProgress = s := rfl
@[simp] theorem State.setFrameInProgress_setFrameInProgress (x y : FrameProgress) : (s.setFrameInProgress x).setFrameInProgress y = s.setFrameInProgress y := rfl

@[simp] theorem State.setTbCount_por (x : Fin 50) : (s.setTbCount x).por = s.por := rfl
@[simp] theorem State.setTbCount_drstn (x : Fin 50) : (s.setTbCount x).drstn = s.drstn := rfl
@[simp] theorem State.setTbCount_ready (x : Fin 50) : (s.setTbCount x).ready = s.ready := rfl
@[simp] theorem State.setTbCount_refclkStopped (x : Fin 50) : (s.setTbCount x).refclkStopped = s.refclkStopped := rfl
@[simp] theorem State.setTbCount_busReset (x : Fin 50) : (s.setTbCount x).busReset = s.busReset := rfl
@[simp] theorem State.setTbCount_opState (x : Fin 50) : (s.setTbCount x).opState = s.opState := rfl
@[simp] theorem State.setTbCount_pq (x : Fin 50) : (s.setTbCount x).pq = s.pq := rfl
@[simp] theorem State.setTbCount_prt (x : Fin 50) : (s.setTbCount x).prt = s.prt := rfl
@[simp] theorem State.setTbCount_tags (x : Fin 50) : (s.setTbCount x).tags = s.tags := rfl
@[simp] theorem State.setTbCount_lastGranted (x : Fin 50) : (s.setTbCount x).lastGranted = s.lastGranted := rfl
@[simp] theorem State.setTbCount_windows (x : Fin 50) : (s.setTbCount x).windows = s.windows := rfl
@[simp] theorem State.setTbCount_streams (x : Fin 50) : (s.setTbCount x).streams = s.streams := rfl
@[simp] theorem State.setTbCount_nq (x : Fin 50) : (s.setTbCount x).nq = s.nq := rfl
@[simp] theorem State.setTbCount_noticesLost (x : Fin 50) : (s.setTbCount x).noticesLost = s.noticesLost := rfl
@[simp] theorem State.setTbCount_el (x : Fin 50) : (s.setTbCount x).el = s.el := rfl
@[simp] theorem State.setTbCount_errorsLost (x : Fin 50) : (s.setTbCount x).errorsLost = s.errorsLost := rfl
@[simp] theorem State.setTbCount_counters (x : Fin 50) : (s.setTbCount x).counters = s.counters := rfl
@[simp] theorem State.setTbCount_timers (x : Fin 50) : (s.setTbCount x).timers = s.timers := rfl
@[simp] theorem State.setTbCount_reply (x : Fin 50) : (s.setTbCount x).reply = s.reply := rfl
@[simp] theorem State.setTbCount_frameInProgress (x : Fin 50) : (s.setTbCount x).frameInProgress = s.frameInProgress := rfl
@[simp] theorem State.setTbCount_tbCount (x : Fin 50) : (s.setTbCount x).tbCount = x := rfl
@[simp] theorem State.setTbCount_held (x : Fin 50) : (s.setTbCount x).held = s.held := rfl
@[simp] theorem State.setTbCount_portWaiting (x : Fin 50) : (s.setTbCount x).portWaiting = s.portWaiting := rfl
@[simp] theorem State.setTbCount_cycleInputs (x : Fin 50) : (s.setTbCount x).cycleInputs = s.cycleInputs := rfl
@[simp] theorem State.setTbCount_answers (x : Fin 50) : (s.setTbCount x).answers = s.answers := rfl
@[simp] theorem State.setTbCount_requests (x : Fin 50) : (s.setTbCount x).requests = s.requests := rfl
@[simp] theorem State.setTbCount_misos (x : Fin 50) : (s.setTbCount x).misos = s.misos := rfl
@[simp] theorem State.setTbCount_nextId (x : Fin 50) : (s.setTbCount x).nextId = s.nextId := rfl
@[simp] theorem State.setTbCount_pending (x : Fin 50) : (s.setTbCount x).pending = s.pending := rfl
@[simp] theorem State.setTbCount_same : s.setTbCount s.tbCount = s := rfl
@[simp] theorem State.setTbCount_setTbCount (x y : Fin 50) : (s.setTbCount x).setTbCount y = s.setTbCount y := rfl

@[simp] theorem State.setHeld_por (x : List HeldEvent) : (s.setHeld x).por = s.por := rfl
@[simp] theorem State.setHeld_drstn (x : List HeldEvent) : (s.setHeld x).drstn = s.drstn := rfl
@[simp] theorem State.setHeld_ready (x : List HeldEvent) : (s.setHeld x).ready = s.ready := rfl
@[simp] theorem State.setHeld_refclkStopped (x : List HeldEvent) : (s.setHeld x).refclkStopped = s.refclkStopped := rfl
@[simp] theorem State.setHeld_busReset (x : List HeldEvent) : (s.setHeld x).busReset = s.busReset := rfl
@[simp] theorem State.setHeld_opState (x : List HeldEvent) : (s.setHeld x).opState = s.opState := rfl
@[simp] theorem State.setHeld_pq (x : List HeldEvent) : (s.setHeld x).pq = s.pq := rfl
@[simp] theorem State.setHeld_prt (x : List HeldEvent) : (s.setHeld x).prt = s.prt := rfl
@[simp] theorem State.setHeld_tags (x : List HeldEvent) : (s.setHeld x).tags = s.tags := rfl
@[simp] theorem State.setHeld_lastGranted (x : List HeldEvent) : (s.setHeld x).lastGranted = s.lastGranted := rfl
@[simp] theorem State.setHeld_windows (x : List HeldEvent) : (s.setHeld x).windows = s.windows := rfl
@[simp] theorem State.setHeld_streams (x : List HeldEvent) : (s.setHeld x).streams = s.streams := rfl
@[simp] theorem State.setHeld_nq (x : List HeldEvent) : (s.setHeld x).nq = s.nq := rfl
@[simp] theorem State.setHeld_noticesLost (x : List HeldEvent) : (s.setHeld x).noticesLost = s.noticesLost := rfl
@[simp] theorem State.setHeld_el (x : List HeldEvent) : (s.setHeld x).el = s.el := rfl
@[simp] theorem State.setHeld_errorsLost (x : List HeldEvent) : (s.setHeld x).errorsLost = s.errorsLost := rfl
@[simp] theorem State.setHeld_counters (x : List HeldEvent) : (s.setHeld x).counters = s.counters := rfl
@[simp] theorem State.setHeld_timers (x : List HeldEvent) : (s.setHeld x).timers = s.timers := rfl
@[simp] theorem State.setHeld_reply (x : List HeldEvent) : (s.setHeld x).reply = s.reply := rfl
@[simp] theorem State.setHeld_frameInProgress (x : List HeldEvent) : (s.setHeld x).frameInProgress = s.frameInProgress := rfl
@[simp] theorem State.setHeld_tbCount (x : List HeldEvent) : (s.setHeld x).tbCount = s.tbCount := rfl
@[simp] theorem State.setHeld_held (x : List HeldEvent) : (s.setHeld x).held = x := rfl
@[simp] theorem State.setHeld_portWaiting (x : List HeldEvent) : (s.setHeld x).portWaiting = s.portWaiting := rfl
@[simp] theorem State.setHeld_cycleInputs (x : List HeldEvent) : (s.setHeld x).cycleInputs = s.cycleInputs := rfl
@[simp] theorem State.setHeld_answers (x : List HeldEvent) : (s.setHeld x).answers = s.answers := rfl
@[simp] theorem State.setHeld_requests (x : List HeldEvent) : (s.setHeld x).requests = s.requests := rfl
@[simp] theorem State.setHeld_misos (x : List HeldEvent) : (s.setHeld x).misos = s.misos := rfl
@[simp] theorem State.setHeld_nextId (x : List HeldEvent) : (s.setHeld x).nextId = s.nextId := rfl
@[simp] theorem State.setHeld_pending (x : List HeldEvent) : (s.setHeld x).pending = s.pending := rfl
@[simp] theorem State.setHeld_same : s.setHeld s.held = s := rfl
@[simp] theorem State.setHeld_setHeld (x y : List HeldEvent) : (s.setHeld x).setHeld y = s.setHeld y := rfl

@[simp] theorem State.setPortWaiting_por (x : List PortEvent) : (s.setPortWaiting x).por = s.por := rfl
@[simp] theorem State.setPortWaiting_drstn (x : List PortEvent) : (s.setPortWaiting x).drstn = s.drstn := rfl
@[simp] theorem State.setPortWaiting_ready (x : List PortEvent) : (s.setPortWaiting x).ready = s.ready := rfl
@[simp] theorem State.setPortWaiting_refclkStopped (x : List PortEvent) : (s.setPortWaiting x).refclkStopped = s.refclkStopped := rfl
@[simp] theorem State.setPortWaiting_busReset (x : List PortEvent) : (s.setPortWaiting x).busReset = s.busReset := rfl
@[simp] theorem State.setPortWaiting_opState (x : List PortEvent) : (s.setPortWaiting x).opState = s.opState := rfl
@[simp] theorem State.setPortWaiting_pq (x : List PortEvent) : (s.setPortWaiting x).pq = s.pq := rfl
@[simp] theorem State.setPortWaiting_prt (x : List PortEvent) : (s.setPortWaiting x).prt = s.prt := rfl
@[simp] theorem State.setPortWaiting_tags (x : List PortEvent) : (s.setPortWaiting x).tags = s.tags := rfl
@[simp] theorem State.setPortWaiting_lastGranted (x : List PortEvent) : (s.setPortWaiting x).lastGranted = s.lastGranted := rfl
@[simp] theorem State.setPortWaiting_windows (x : List PortEvent) : (s.setPortWaiting x).windows = s.windows := rfl
@[simp] theorem State.setPortWaiting_streams (x : List PortEvent) : (s.setPortWaiting x).streams = s.streams := rfl
@[simp] theorem State.setPortWaiting_nq (x : List PortEvent) : (s.setPortWaiting x).nq = s.nq := rfl
@[simp] theorem State.setPortWaiting_noticesLost (x : List PortEvent) : (s.setPortWaiting x).noticesLost = s.noticesLost := rfl
@[simp] theorem State.setPortWaiting_el (x : List PortEvent) : (s.setPortWaiting x).el = s.el := rfl
@[simp] theorem State.setPortWaiting_errorsLost (x : List PortEvent) : (s.setPortWaiting x).errorsLost = s.errorsLost := rfl
@[simp] theorem State.setPortWaiting_counters (x : List PortEvent) : (s.setPortWaiting x).counters = s.counters := rfl
@[simp] theorem State.setPortWaiting_timers (x : List PortEvent) : (s.setPortWaiting x).timers = s.timers := rfl
@[simp] theorem State.setPortWaiting_reply (x : List PortEvent) : (s.setPortWaiting x).reply = s.reply := rfl
@[simp] theorem State.setPortWaiting_frameInProgress (x : List PortEvent) : (s.setPortWaiting x).frameInProgress = s.frameInProgress := rfl
@[simp] theorem State.setPortWaiting_tbCount (x : List PortEvent) : (s.setPortWaiting x).tbCount = s.tbCount := rfl
@[simp] theorem State.setPortWaiting_held (x : List PortEvent) : (s.setPortWaiting x).held = s.held := rfl
@[simp] theorem State.setPortWaiting_portWaiting (x : List PortEvent) : (s.setPortWaiting x).portWaiting = x := rfl
@[simp] theorem State.setPortWaiting_cycleInputs (x : List PortEvent) : (s.setPortWaiting x).cycleInputs = s.cycleInputs := rfl
@[simp] theorem State.setPortWaiting_answers (x : List PortEvent) : (s.setPortWaiting x).answers = s.answers := rfl
@[simp] theorem State.setPortWaiting_requests (x : List PortEvent) : (s.setPortWaiting x).requests = s.requests := rfl
@[simp] theorem State.setPortWaiting_misos (x : List PortEvent) : (s.setPortWaiting x).misos = s.misos := rfl
@[simp] theorem State.setPortWaiting_nextId (x : List PortEvent) : (s.setPortWaiting x).nextId = s.nextId := rfl
@[simp] theorem State.setPortWaiting_pending (x : List PortEvent) : (s.setPortWaiting x).pending = s.pending := rfl
@[simp] theorem State.setPortWaiting_same : s.setPortWaiting s.portWaiting = s := rfl
@[simp] theorem State.setPortWaiting_setPortWaiting (x y : List PortEvent) : (s.setPortWaiting x).setPortWaiting y = s.setPortWaiting y := rfl

@[simp] theorem State.setCycleInputs_por (x : List CycleInput) : (s.setCycleInputs x).por = s.por := rfl
@[simp] theorem State.setCycleInputs_drstn (x : List CycleInput) : (s.setCycleInputs x).drstn = s.drstn := rfl
@[simp] theorem State.setCycleInputs_ready (x : List CycleInput) : (s.setCycleInputs x).ready = s.ready := rfl
@[simp] theorem State.setCycleInputs_refclkStopped (x : List CycleInput) : (s.setCycleInputs x).refclkStopped = s.refclkStopped := rfl
@[simp] theorem State.setCycleInputs_busReset (x : List CycleInput) : (s.setCycleInputs x).busReset = s.busReset := rfl
@[simp] theorem State.setCycleInputs_opState (x : List CycleInput) : (s.setCycleInputs x).opState = s.opState := rfl
@[simp] theorem State.setCycleInputs_pq (x : List CycleInput) : (s.setCycleInputs x).pq = s.pq := rfl
@[simp] theorem State.setCycleInputs_prt (x : List CycleInput) : (s.setCycleInputs x).prt = s.prt := rfl
@[simp] theorem State.setCycleInputs_tags (x : List CycleInput) : (s.setCycleInputs x).tags = s.tags := rfl
@[simp] theorem State.setCycleInputs_lastGranted (x : List CycleInput) : (s.setCycleInputs x).lastGranted = s.lastGranted := rfl
@[simp] theorem State.setCycleInputs_windows (x : List CycleInput) : (s.setCycleInputs x).windows = s.windows := rfl
@[simp] theorem State.setCycleInputs_streams (x : List CycleInput) : (s.setCycleInputs x).streams = s.streams := rfl
@[simp] theorem State.setCycleInputs_nq (x : List CycleInput) : (s.setCycleInputs x).nq = s.nq := rfl
@[simp] theorem State.setCycleInputs_noticesLost (x : List CycleInput) : (s.setCycleInputs x).noticesLost = s.noticesLost := rfl
@[simp] theorem State.setCycleInputs_el (x : List CycleInput) : (s.setCycleInputs x).el = s.el := rfl
@[simp] theorem State.setCycleInputs_errorsLost (x : List CycleInput) : (s.setCycleInputs x).errorsLost = s.errorsLost := rfl
@[simp] theorem State.setCycleInputs_counters (x : List CycleInput) : (s.setCycleInputs x).counters = s.counters := rfl
@[simp] theorem State.setCycleInputs_timers (x : List CycleInput) : (s.setCycleInputs x).timers = s.timers := rfl
@[simp] theorem State.setCycleInputs_reply (x : List CycleInput) : (s.setCycleInputs x).reply = s.reply := rfl
@[simp] theorem State.setCycleInputs_frameInProgress (x : List CycleInput) : (s.setCycleInputs x).frameInProgress = s.frameInProgress := rfl
@[simp] theorem State.setCycleInputs_tbCount (x : List CycleInput) : (s.setCycleInputs x).tbCount = s.tbCount := rfl
@[simp] theorem State.setCycleInputs_held (x : List CycleInput) : (s.setCycleInputs x).held = s.held := rfl
@[simp] theorem State.setCycleInputs_portWaiting (x : List CycleInput) : (s.setCycleInputs x).portWaiting = s.portWaiting := rfl
@[simp] theorem State.setCycleInputs_cycleInputs (x : List CycleInput) : (s.setCycleInputs x).cycleInputs = x := rfl
@[simp] theorem State.setCycleInputs_answers (x : List CycleInput) : (s.setCycleInputs x).answers = s.answers := rfl
@[simp] theorem State.setCycleInputs_requests (x : List CycleInput) : (s.setCycleInputs x).requests = s.requests := rfl
@[simp] theorem State.setCycleInputs_misos (x : List CycleInput) : (s.setCycleInputs x).misos = s.misos := rfl
@[simp] theorem State.setCycleInputs_nextId (x : List CycleInput) : (s.setCycleInputs x).nextId = s.nextId := rfl
@[simp] theorem State.setCycleInputs_pending (x : List CycleInput) : (s.setCycleInputs x).pending = s.pending := rfl
@[simp] theorem State.setCycleInputs_same : s.setCycleInputs s.cycleInputs = s := rfl
@[simp] theorem State.setCycleInputs_setCycleInputs (x y : List CycleInput) : (s.setCycleInputs x).setCycleInputs y = s.setCycleInputs y := rfl

@[simp] theorem State.setAnswers_por (x : List Answer) : (s.setAnswers x).por = s.por := rfl
@[simp] theorem State.setAnswers_drstn (x : List Answer) : (s.setAnswers x).drstn = s.drstn := rfl
@[simp] theorem State.setAnswers_ready (x : List Answer) : (s.setAnswers x).ready = s.ready := rfl
@[simp] theorem State.setAnswers_refclkStopped (x : List Answer) : (s.setAnswers x).refclkStopped = s.refclkStopped := rfl
@[simp] theorem State.setAnswers_busReset (x : List Answer) : (s.setAnswers x).busReset = s.busReset := rfl
@[simp] theorem State.setAnswers_opState (x : List Answer) : (s.setAnswers x).opState = s.opState := rfl
@[simp] theorem State.setAnswers_pq (x : List Answer) : (s.setAnswers x).pq = s.pq := rfl
@[simp] theorem State.setAnswers_prt (x : List Answer) : (s.setAnswers x).prt = s.prt := rfl
@[simp] theorem State.setAnswers_tags (x : List Answer) : (s.setAnswers x).tags = s.tags := rfl
@[simp] theorem State.setAnswers_lastGranted (x : List Answer) : (s.setAnswers x).lastGranted = s.lastGranted := rfl
@[simp] theorem State.setAnswers_windows (x : List Answer) : (s.setAnswers x).windows = s.windows := rfl
@[simp] theorem State.setAnswers_streams (x : List Answer) : (s.setAnswers x).streams = s.streams := rfl
@[simp] theorem State.setAnswers_nq (x : List Answer) : (s.setAnswers x).nq = s.nq := rfl
@[simp] theorem State.setAnswers_noticesLost (x : List Answer) : (s.setAnswers x).noticesLost = s.noticesLost := rfl
@[simp] theorem State.setAnswers_el (x : List Answer) : (s.setAnswers x).el = s.el := rfl
@[simp] theorem State.setAnswers_errorsLost (x : List Answer) : (s.setAnswers x).errorsLost = s.errorsLost := rfl
@[simp] theorem State.setAnswers_counters (x : List Answer) : (s.setAnswers x).counters = s.counters := rfl
@[simp] theorem State.setAnswers_timers (x : List Answer) : (s.setAnswers x).timers = s.timers := rfl
@[simp] theorem State.setAnswers_reply (x : List Answer) : (s.setAnswers x).reply = s.reply := rfl
@[simp] theorem State.setAnswers_frameInProgress (x : List Answer) : (s.setAnswers x).frameInProgress = s.frameInProgress := rfl
@[simp] theorem State.setAnswers_tbCount (x : List Answer) : (s.setAnswers x).tbCount = s.tbCount := rfl
@[simp] theorem State.setAnswers_held (x : List Answer) : (s.setAnswers x).held = s.held := rfl
@[simp] theorem State.setAnswers_portWaiting (x : List Answer) : (s.setAnswers x).portWaiting = s.portWaiting := rfl
@[simp] theorem State.setAnswers_cycleInputs (x : List Answer) : (s.setAnswers x).cycleInputs = s.cycleInputs := rfl
@[simp] theorem State.setAnswers_answers (x : List Answer) : (s.setAnswers x).answers = x := rfl
@[simp] theorem State.setAnswers_requests (x : List Answer) : (s.setAnswers x).requests = s.requests := rfl
@[simp] theorem State.setAnswers_misos (x : List Answer) : (s.setAnswers x).misos = s.misos := rfl
@[simp] theorem State.setAnswers_nextId (x : List Answer) : (s.setAnswers x).nextId = s.nextId := rfl
@[simp] theorem State.setAnswers_pending (x : List Answer) : (s.setAnswers x).pending = s.pending := rfl
@[simp] theorem State.setAnswers_same : s.setAnswers s.answers = s := rfl
@[simp] theorem State.setAnswers_setAnswers (x y : List Answer) : (s.setAnswers x).setAnswers y = s.setAnswers y := rfl

@[simp] theorem State.setRequests_por (x : List LinkRequest) : (s.setRequests x).por = s.por := rfl
@[simp] theorem State.setRequests_drstn (x : List LinkRequest) : (s.setRequests x).drstn = s.drstn := rfl
@[simp] theorem State.setRequests_ready (x : List LinkRequest) : (s.setRequests x).ready = s.ready := rfl
@[simp] theorem State.setRequests_refclkStopped (x : List LinkRequest) : (s.setRequests x).refclkStopped = s.refclkStopped := rfl
@[simp] theorem State.setRequests_busReset (x : List LinkRequest) : (s.setRequests x).busReset = s.busReset := rfl
@[simp] theorem State.setRequests_opState (x : List LinkRequest) : (s.setRequests x).opState = s.opState := rfl
@[simp] theorem State.setRequests_pq (x : List LinkRequest) : (s.setRequests x).pq = s.pq := rfl
@[simp] theorem State.setRequests_prt (x : List LinkRequest) : (s.setRequests x).prt = s.prt := rfl
@[simp] theorem State.setRequests_tags (x : List LinkRequest) : (s.setRequests x).tags = s.tags := rfl
@[simp] theorem State.setRequests_lastGranted (x : List LinkRequest) : (s.setRequests x).lastGranted = s.lastGranted := rfl
@[simp] theorem State.setRequests_windows (x : List LinkRequest) : (s.setRequests x).windows = s.windows := rfl
@[simp] theorem State.setRequests_streams (x : List LinkRequest) : (s.setRequests x).streams = s.streams := rfl
@[simp] theorem State.setRequests_nq (x : List LinkRequest) : (s.setRequests x).nq = s.nq := rfl
@[simp] theorem State.setRequests_noticesLost (x : List LinkRequest) : (s.setRequests x).noticesLost = s.noticesLost := rfl
@[simp] theorem State.setRequests_el (x : List LinkRequest) : (s.setRequests x).el = s.el := rfl
@[simp] theorem State.setRequests_errorsLost (x : List LinkRequest) : (s.setRequests x).errorsLost = s.errorsLost := rfl
@[simp] theorem State.setRequests_counters (x : List LinkRequest) : (s.setRequests x).counters = s.counters := rfl
@[simp] theorem State.setRequests_timers (x : List LinkRequest) : (s.setRequests x).timers = s.timers := rfl
@[simp] theorem State.setRequests_reply (x : List LinkRequest) : (s.setRequests x).reply = s.reply := rfl
@[simp] theorem State.setRequests_frameInProgress (x : List LinkRequest) : (s.setRequests x).frameInProgress = s.frameInProgress := rfl
@[simp] theorem State.setRequests_tbCount (x : List LinkRequest) : (s.setRequests x).tbCount = s.tbCount := rfl
@[simp] theorem State.setRequests_held (x : List LinkRequest) : (s.setRequests x).held = s.held := rfl
@[simp] theorem State.setRequests_portWaiting (x : List LinkRequest) : (s.setRequests x).portWaiting = s.portWaiting := rfl
@[simp] theorem State.setRequests_cycleInputs (x : List LinkRequest) : (s.setRequests x).cycleInputs = s.cycleInputs := rfl
@[simp] theorem State.setRequests_answers (x : List LinkRequest) : (s.setRequests x).answers = s.answers := rfl
@[simp] theorem State.setRequests_requests (x : List LinkRequest) : (s.setRequests x).requests = x := rfl
@[simp] theorem State.setRequests_misos (x : List LinkRequest) : (s.setRequests x).misos = s.misos := rfl
@[simp] theorem State.setRequests_nextId (x : List LinkRequest) : (s.setRequests x).nextId = s.nextId := rfl
@[simp] theorem State.setRequests_pending (x : List LinkRequest) : (s.setRequests x).pending = s.pending := rfl
@[simp] theorem State.setRequests_same : s.setRequests s.requests = s := rfl
@[simp] theorem State.setRequests_setRequests (x y : List LinkRequest) : (s.setRequests x).setRequests y = s.setRequests y := rfl

@[simp] theorem State.setMisos_por (x : List Miso) : (s.setMisos x).por = s.por := rfl
@[simp] theorem State.setMisos_drstn (x : List Miso) : (s.setMisos x).drstn = s.drstn := rfl
@[simp] theorem State.setMisos_ready (x : List Miso) : (s.setMisos x).ready = s.ready := rfl
@[simp] theorem State.setMisos_refclkStopped (x : List Miso) : (s.setMisos x).refclkStopped = s.refclkStopped := rfl
@[simp] theorem State.setMisos_busReset (x : List Miso) : (s.setMisos x).busReset = s.busReset := rfl
@[simp] theorem State.setMisos_opState (x : List Miso) : (s.setMisos x).opState = s.opState := rfl
@[simp] theorem State.setMisos_pq (x : List Miso) : (s.setMisos x).pq = s.pq := rfl
@[simp] theorem State.setMisos_prt (x : List Miso) : (s.setMisos x).prt = s.prt := rfl
@[simp] theorem State.setMisos_tags (x : List Miso) : (s.setMisos x).tags = s.tags := rfl
@[simp] theorem State.setMisos_lastGranted (x : List Miso) : (s.setMisos x).lastGranted = s.lastGranted := rfl
@[simp] theorem State.setMisos_windows (x : List Miso) : (s.setMisos x).windows = s.windows := rfl
@[simp] theorem State.setMisos_streams (x : List Miso) : (s.setMisos x).streams = s.streams := rfl
@[simp] theorem State.setMisos_nq (x : List Miso) : (s.setMisos x).nq = s.nq := rfl
@[simp] theorem State.setMisos_noticesLost (x : List Miso) : (s.setMisos x).noticesLost = s.noticesLost := rfl
@[simp] theorem State.setMisos_el (x : List Miso) : (s.setMisos x).el = s.el := rfl
@[simp] theorem State.setMisos_errorsLost (x : List Miso) : (s.setMisos x).errorsLost = s.errorsLost := rfl
@[simp] theorem State.setMisos_counters (x : List Miso) : (s.setMisos x).counters = s.counters := rfl
@[simp] theorem State.setMisos_timers (x : List Miso) : (s.setMisos x).timers = s.timers := rfl
@[simp] theorem State.setMisos_reply (x : List Miso) : (s.setMisos x).reply = s.reply := rfl
@[simp] theorem State.setMisos_frameInProgress (x : List Miso) : (s.setMisos x).frameInProgress = s.frameInProgress := rfl
@[simp] theorem State.setMisos_tbCount (x : List Miso) : (s.setMisos x).tbCount = s.tbCount := rfl
@[simp] theorem State.setMisos_held (x : List Miso) : (s.setMisos x).held = s.held := rfl
@[simp] theorem State.setMisos_portWaiting (x : List Miso) : (s.setMisos x).portWaiting = s.portWaiting := rfl
@[simp] theorem State.setMisos_cycleInputs (x : List Miso) : (s.setMisos x).cycleInputs = s.cycleInputs := rfl
@[simp] theorem State.setMisos_answers (x : List Miso) : (s.setMisos x).answers = s.answers := rfl
@[simp] theorem State.setMisos_requests (x : List Miso) : (s.setMisos x).requests = s.requests := rfl
@[simp] theorem State.setMisos_misos (x : List Miso) : (s.setMisos x).misos = x := rfl
@[simp] theorem State.setMisos_nextId (x : List Miso) : (s.setMisos x).nextId = s.nextId := rfl
@[simp] theorem State.setMisos_pending (x : List Miso) : (s.setMisos x).pending = s.pending := rfl
@[simp] theorem State.setMisos_same : s.setMisos s.misos = s := rfl
@[simp] theorem State.setMisos_setMisos (x y : List Miso) : (s.setMisos x).setMisos y = s.setMisos y := rfl

@[simp] theorem State.setNextId_por (x : Nat) : (s.setNextId x).por = s.por := rfl
@[simp] theorem State.setNextId_drstn (x : Nat) : (s.setNextId x).drstn = s.drstn := rfl
@[simp] theorem State.setNextId_ready (x : Nat) : (s.setNextId x).ready = s.ready := rfl
@[simp] theorem State.setNextId_refclkStopped (x : Nat) : (s.setNextId x).refclkStopped = s.refclkStopped := rfl
@[simp] theorem State.setNextId_busReset (x : Nat) : (s.setNextId x).busReset = s.busReset := rfl
@[simp] theorem State.setNextId_opState (x : Nat) : (s.setNextId x).opState = s.opState := rfl
@[simp] theorem State.setNextId_pq (x : Nat) : (s.setNextId x).pq = s.pq := rfl
@[simp] theorem State.setNextId_prt (x : Nat) : (s.setNextId x).prt = s.prt := rfl
@[simp] theorem State.setNextId_tags (x : Nat) : (s.setNextId x).tags = s.tags := rfl
@[simp] theorem State.setNextId_lastGranted (x : Nat) : (s.setNextId x).lastGranted = s.lastGranted := rfl
@[simp] theorem State.setNextId_windows (x : Nat) : (s.setNextId x).windows = s.windows := rfl
@[simp] theorem State.setNextId_streams (x : Nat) : (s.setNextId x).streams = s.streams := rfl
@[simp] theorem State.setNextId_nq (x : Nat) : (s.setNextId x).nq = s.nq := rfl
@[simp] theorem State.setNextId_noticesLost (x : Nat) : (s.setNextId x).noticesLost = s.noticesLost := rfl
@[simp] theorem State.setNextId_el (x : Nat) : (s.setNextId x).el = s.el := rfl
@[simp] theorem State.setNextId_errorsLost (x : Nat) : (s.setNextId x).errorsLost = s.errorsLost := rfl
@[simp] theorem State.setNextId_counters (x : Nat) : (s.setNextId x).counters = s.counters := rfl
@[simp] theorem State.setNextId_timers (x : Nat) : (s.setNextId x).timers = s.timers := rfl
@[simp] theorem State.setNextId_reply (x : Nat) : (s.setNextId x).reply = s.reply := rfl
@[simp] theorem State.setNextId_frameInProgress (x : Nat) : (s.setNextId x).frameInProgress = s.frameInProgress := rfl
@[simp] theorem State.setNextId_tbCount (x : Nat) : (s.setNextId x).tbCount = s.tbCount := rfl
@[simp] theorem State.setNextId_held (x : Nat) : (s.setNextId x).held = s.held := rfl
@[simp] theorem State.setNextId_portWaiting (x : Nat) : (s.setNextId x).portWaiting = s.portWaiting := rfl
@[simp] theorem State.setNextId_cycleInputs (x : Nat) : (s.setNextId x).cycleInputs = s.cycleInputs := rfl
@[simp] theorem State.setNextId_answers (x : Nat) : (s.setNextId x).answers = s.answers := rfl
@[simp] theorem State.setNextId_requests (x : Nat) : (s.setNextId x).requests = s.requests := rfl
@[simp] theorem State.setNextId_misos (x : Nat) : (s.setNextId x).misos = s.misos := rfl
@[simp] theorem State.setNextId_nextId (x : Nat) : (s.setNextId x).nextId = x := rfl
@[simp] theorem State.setNextId_pending (x : Nat) : (s.setNextId x).pending = s.pending := rfl
@[simp] theorem State.setNextId_same : s.setNextId s.nextId = s := rfl
@[simp] theorem State.setNextId_setNextId (x y : Nat) : (s.setNextId x).setNextId y = s.setNextId y := rfl

@[simp] theorem State.setPending_por (x : List Instr) : (s.setPending x).por = s.por := rfl
@[simp] theorem State.setPending_drstn (x : List Instr) : (s.setPending x).drstn = s.drstn := rfl
@[simp] theorem State.setPending_ready (x : List Instr) : (s.setPending x).ready = s.ready := rfl
@[simp] theorem State.setPending_refclkStopped (x : List Instr) : (s.setPending x).refclkStopped = s.refclkStopped := rfl
@[simp] theorem State.setPending_busReset (x : List Instr) : (s.setPending x).busReset = s.busReset := rfl
@[simp] theorem State.setPending_opState (x : List Instr) : (s.setPending x).opState = s.opState := rfl
@[simp] theorem State.setPending_pq (x : List Instr) : (s.setPending x).pq = s.pq := rfl
@[simp] theorem State.setPending_prt (x : List Instr) : (s.setPending x).prt = s.prt := rfl
@[simp] theorem State.setPending_tags (x : List Instr) : (s.setPending x).tags = s.tags := rfl
@[simp] theorem State.setPending_lastGranted (x : List Instr) : (s.setPending x).lastGranted = s.lastGranted := rfl
@[simp] theorem State.setPending_windows (x : List Instr) : (s.setPending x).windows = s.windows := rfl
@[simp] theorem State.setPending_streams (x : List Instr) : (s.setPending x).streams = s.streams := rfl
@[simp] theorem State.setPending_nq (x : List Instr) : (s.setPending x).nq = s.nq := rfl
@[simp] theorem State.setPending_noticesLost (x : List Instr) : (s.setPending x).noticesLost = s.noticesLost := rfl
@[simp] theorem State.setPending_el (x : List Instr) : (s.setPending x).el = s.el := rfl
@[simp] theorem State.setPending_errorsLost (x : List Instr) : (s.setPending x).errorsLost = s.errorsLost := rfl
@[simp] theorem State.setPending_counters (x : List Instr) : (s.setPending x).counters = s.counters := rfl
@[simp] theorem State.setPending_timers (x : List Instr) : (s.setPending x).timers = s.timers := rfl
@[simp] theorem State.setPending_reply (x : List Instr) : (s.setPending x).reply = s.reply := rfl
@[simp] theorem State.setPending_frameInProgress (x : List Instr) : (s.setPending x).frameInProgress = s.frameInProgress := rfl
@[simp] theorem State.setPending_tbCount (x : List Instr) : (s.setPending x).tbCount = s.tbCount := rfl
@[simp] theorem State.setPending_held (x : List Instr) : (s.setPending x).held = s.held := rfl
@[simp] theorem State.setPending_portWaiting (x : List Instr) : (s.setPending x).portWaiting = s.portWaiting := rfl
@[simp] theorem State.setPending_cycleInputs (x : List Instr) : (s.setPending x).cycleInputs = s.cycleInputs := rfl
@[simp] theorem State.setPending_answers (x : List Instr) : (s.setPending x).answers = s.answers := rfl
@[simp] theorem State.setPending_requests (x : List Instr) : (s.setPending x).requests = s.requests := rfl
@[simp] theorem State.setPending_misos (x : List Instr) : (s.setPending x).misos = s.misos := rfl
@[simp] theorem State.setPending_nextId (x : List Instr) : (s.setPending x).nextId = s.nextId := rfl
@[simp] theorem State.setPending_pending (x : List Instr) : (s.setPending x).pending = x := rfl
@[simp] theorem State.setPending_same : s.setPending s.pending = s := rfl
@[simp] theorem State.setPending_setPending (x y : List Instr) : (s.setPending x).setPending y = s.setPending y := rfl

end Sys2Proof.Machine
end

