-- ==== Sys2Proof/WellFormed.lean ====
section
/-! DEFINITION. When a command term is the spelling of its event. The D-bus, M-link, timer and reset rows carry no operand that
could be ill-formed: their operand types hold exactly the values of the message fields. A management row is ill-formed when
the frame it carries belongs to another row. -/

namespace Sys2Proof

/-- The item field of the bytes after a command byte, where both its bytes are present. -/
def itemFieldOfTail : List Byte → Option Nat
  | hi :: lo :: _ => some (beNat [hi, lo])
  | _ => none

/-- Check 1: a NOP row's frame has no command byte, or one that is 00 Hex or names no command. -/
def nopFrameWellFormed (f : Frame) : Bool :=
  match f.bytes with
  | [] => true
  | b :: _ => commandOfCode b == none || commandOfCode b == some .nop

/-- Check 2: a WRITE_ITEM row's item field does not name a window, timer or stream item. -/
def writeItemWellFormed (t : FrameTail) : Bool :=
  match itemFieldOfTail t.bytes with
  | none => true
  | some n =>
    match itemOfNumber n with
    | some (.window _) | some (.timer _) | some (.stream _) => false
    | _ => true

/-- Check 3: a TAKE_ERROR_RECORD_FORM row's form selector is not 0001 Hex. -/
def takeErrorRecordWellFormed (t : FrameTail) : Bool :=
  itemFieldOfTail t.bytes != some 1

/-- A command is well-formed when it is the row of the event it spells. -/
def Instr.WellFormed : Instr → Bool
  | .nop f => nopFrameWellFormed f
  | .writeItem t => writeItemWellFormed t
  | .takeErrorRecordForm t => takeErrorRecordWellFormed t
  | .write .. | .read .. | .grant | .writeResponse .. | .readResponse .. | .readyAssertion | .readyDeassertion | .tick
  | .combineAgeExpiry .. | .claimTimeOut .. | .lingerTimerExpiry .. | .memoryTimeOut .. | .dBusReset | .releaseOfDrstn
  | .powerOnReset | .releaseOfPorn .. | .refclkCycle | .readItem .. | .writeItemWindow .. | .writeItemTimer ..
  | .writeItemOrderMode .. | .start .. | .stop .. | .clear .. | .hold .. | .unhold .. | .clearFault .. | .takeNotice ..
  | .takeErrorLostCountForm .. | .freeLapsed .. => true

end Sys2Proof
end

