-- ==== Sys2Proof/Safety.lean ====
section
/-! DEFINITION. What counts as a sound state of the part, in the terms the statements use: the invariants that the spec's rules
give, each with its rule, and the shapes of frames and conditions that several statements share. -/

namespace Sys2Proof.Machine

/-! ### Conditions -/

/-- The part takes D-bus transactions: PORn and the bus reset condition are released (R117, R163), and none has to wait (R162). -/
abbrev takesTransactions (s : State) : Prop :=
  s.por = false ∧ s.busReset = false ∧ s.refclkStopped = false

/-- The part takes responses: PORn is released (R163), and none has to wait (R162). -/
abbrev takesResponses (s : State) : Prop :=
  s.por = false ∧ s.refclkStopped = false

/-- R162, R163: a timer can expire: PORn is released and REFCLK runs. -/
abbrev timersCanExpire (s : State) : Prop :=
  s.por = false ∧ s.refclkStopped = false

/-- R164: the frame in progress was begun while PORn was asserted, or interrupted by it. -/
def FrameProgress.spoiled : FrameProgress → Bool
  | .underReset .. => true
  | .csHigh | .receiving .. => false

/-- R148: a frame is in progress, and PORn has not spoiled it. -/
def FrameProgress.isReceiving : FrameProgress → Bool
  | .receiving .. => true
  | .csHigh | .underReset .. => false

/-- The management port takes the frame in progress, or the next one, whole at its end: PORn is released, PORn has not spoiled the frame
(R164), and no frame has to wait (R162). -/
abbrev portReady (s : State) : Prop :=
  s.por = false ∧ s.frameInProgress.spoiled = false ∧ s.refclkStopped = false

/-- What a well-framed request carries after its command byte: the item field, the length and the data (table 9-1). -/
def framed (hi lo : Byte) (data : List Byte) : FrameTail :=
  ⟨hi :: lo :: BitVec.ofNat 8 data.length :: data, 0⟩

/-- What a well-framed request carries after its item field: the length and the data (table 9-1). -/
def framedData (data : List Byte) : FrameTail :=
  ⟨BitVec.ofNat 8 data.length :: data, 0⟩

/-- R90: the request's page decodes to window `w`: the window contains it, and no lower-numbered one does. -/
abbrev decodesTo (s : State) (a : Address) (w : WindowNo) : Prop :=
  windowContains s.windows[w] (pageOf a) = true ∧ ∀ v : WindowNo, v < w → windowContains s.windows[v] (pageOf a) = false

/-- A WRITE of that stream, address and data that passes every check before the PQ, with the window that decodes it (R105). -/
abbrev writeReaches (s : State) (i : StreamNo) (a : Address) (data : List Byte) (w : WindowNo) : Prop :=
  takesTransactions s ∧ data ≠ [] ∧ (offsetOf a).toNat + data.length ≤ 64 ∧ decodesTo s a w ∧ s.opState = .online ∧
    s.streams[i].hold = false

/-- A READ of that address and byte count that passes the form and decode checks, with the window that decodes it (R106). -/
abbrev readDecodes (s : State) (a : Address) (n : Nat) (w : WindowNo) : Prop :=
  takesTransactions s ∧ n ≠ 0 ∧ (offsetOf a).toNat + n ≤ 64 ∧ decodesTo s a w ∧ s.windows[w].readTreatment ≠ .refuse

/-- R62: a PRT entry on line `l` as an accepted write to `l` leaves it; none when the write frees it. -/
def afterWriteOn (l : Line) (p : PrtEntry) : Option PrtEntry :=
  if p.line = l then
    match p.state with
    | .waiting _ => some p
    | .fetching _ => some { p with readAhead := false }
    | .parked _ _ => some { p with readAhead := false }
    | .lingering _ _ => none
  else some p

/-- R8, R9, R14: a PQ entry as the acceptance of a new entry of stream `i` on line `l` leaves it: SEALED where it was OPEN and is of
that stream or on that line. -/
def sealedByAppend (i : StreamNo) (l : Line) (e : PqEntry) : PqEntry :=
  if e.stream = i ∨ e.line = l then e.toSealed else e

/-- R9, R14: a stream record as the acceptance of a new entry of stream `i` on line `l` leaves it, apart from what R10 then sets:
the open-entry field of `i`, and that of the stream whose entry is OPEN on `l`, is none. -/
def streamsAfterAppend (i : StreamNo) (l : Line) (s : State) : Vector StreamRecord 8 :=
  Vector.ofFn fun j =>
    if j = i ∨ ∃ e ∈ s.pq, e.isOpen = true ∧ e.line = l ∧ e.stream = j then { s.streams[j] with openEntry := none }
    else s.streams[j]

/-- R31, R32: the state after the failure of an entry, which has left the PQ: it is counted, the fault mark of its stream is set, and the
void mark of every SEALED RELEASE entry of its stream; every other entry is as it was. -/
def afterFailure (e : PqEntry) (s : State) : State :=
  ((s.setPq (s.pq.map fun x =>
      if x.stream = e.stream ∧ x.state = .sealed then
        { x with kind := match x.kind with
                  | .release w n _ => .release w n true
                  | .plain m => .plain m }
      else x)).setStreams (s.streams.set e.stream { s.streams[e.stream] with faultMark := true })).setCounters
    (bump .faultMarks (bump .entriesFailed s)).counters

/-- R20, R57: the PRT after PQ entries of those ids have left: a WAITING entry keeps exactly the hazards that did not leave, in their order,
and every other entry is as it was. -/
def prtAfterLeaving (gone : List Nat) (prt : List PrtEntry) : List PrtEntry :=
  prt.map fun p =>
    match p.state with
    | .waiting hazards => { p with state := .waiting (hazards.filter fun h => h ∉ gone) }
    | .fetching _ => p
    | .parked _ _ => p
    | .lingering _ _ => p

/-- R63, R123: the operating state after a PRT entry was freed and `rest` remain. -/
def opStateAfterFree (s : State) (rest : List PrtEntry) : OpState :=
  if s.opState = .draining ∧ s.pq = [] ∧ rest = [] then .offline else s.opState

/-- The PRT without the entry of that id. -/
def prtWithout (s : State) (id : Nat) : List PrtEntry :=
  s.prt.filter fun p => p.id ≠ id

/-- R151: the reply that the buffer held when the frame that ends now began. -/
def replySent (s : State) : Reply :=
  match s.frameInProgress with
  | .receiving _ sending => sending
  | .csHigh | .underReset .. => s.reply

/-- What MISO carries during a command's frame: the reply held when the frame began, then 00 Hex (R151). -/
def misoDuring (s : State) (c : Instr) : List Miso :=
  match frameOfInstr c with
  | some f => [shiftOut (sentByte (replySent s)) f.bytes.length f.extra.val]
  | none => s.misos

/-- R148: the state after CS has risen at the end of the frame of command `c`, where `t` is the state apart from the port. -/
def afterCsRise (s t : State) (c : Instr) : State :=
  (t.setMisos (misoDuring s c)).setFrameInProgress .csHigh

/-- R148 to R151: the state after the frame of command `c`, where `t` is the state that its action leaves and `st` and `data` its
reply. -/
def afterFrame (s t : State) (c : Instr) (st : Status) (data : List Byte) : State :=
  (afterCsRise s t c).setReply { status := st, data := data }

/-- The command of an event that waits; none for a frame that PORn spoiled, which executes nothing. -/
def HeldEvent.command : HeldEvent → Option Instr
  | .arrival c => some c
  | .spoiledFrame => none

/-- The command of the end of a frame that waits on the port. -/
def PortEvent.command : PortEvent → Option Instr
  | .frameEnd c => some c
  | .edge _ => none

/-- R162: the commands whose events wait for REFCLK. -/
def waitingCommands (s : State) : List Instr :=
  s.held.filterMap HeldEvent.command ++ s.portWaiting.filterMap PortEvent.command

/-- The commands whose events a command takes: the command itself, and at a REFCLK cycle all that wait (R162). -/
def commandsTaken (c : Instr) (s : State) : List Instr :=
  c :: match c with
    | .tick => waitingCommands s
    | .refclkCycle => waitingCommands s
    | _ => []

/-- No event that waits for REFCLK is taken at the command. -/
abbrev takesNoHeld (c : Instr) (s : State) : Prop :=
  c = .tick ∨ c = .refclkCycle → s.held = []

/-- R73: the command is a REFCLK cycle or a tick that left `t`, and it sent the request of the entry under that tag, with its bytes, to which
a write that waited may have been added while it was OPEN. -/
def sentInCycle (c : Instr) (t : State) (tag : TagNo) (e : PqEntry) : Prop :=
  (c = .tick ∨ c = .refclkCycle) ∧
    ∃ bytes, .writeRequest tag e.line bytes ∈ t.requests ∧ (e.isOpen = false → bytes = e.bytes)

/-- The row's own bytes: the bytes with which table 9-3 and table 9-4 let a frame of the row begin; none for the NOP row, whose frame
may begin with any byte that names no other command. -/
def rowBytes : Instr → List Byte
  | .readItem _ => [0x01]
  | .writeItem _ => [0x02]
  | .writeItemWindow w _ => [0x02, 0x00, BitVec.ofNat 8 (0x20 + w.val)]
  | .writeItemTimer k _ =>
    [0x02, 0x00, match k with
      | .combineAge => 0x10
      | .claimTime => 0x11
      | .lingerTime => 0x12
      | .memTimeout => 0x13]
  | .writeItemOrderMode i _ => [0x02, 0x00, BitVec.ofNat 8 (0x30 + i.val)]
  | .start _ => [0x10]
  | .stop _ => [0x11]
  | .clear _ => [0x12]
  | .hold _ => [0x20]
  | .unhold _ => [0x21]
  | .clearFault _ => [0x22]
  | .takeNotice _ => [0x30]
  | .takeErrorRecordForm _ => [0x31]
  | .takeErrorLostCountForm _ => [0x31, 0x00, 0x01]
  | .freeLapsed _ => [0x40]
  | .nop _ | .write .. | .read .. | .grant | .writeResponse .. | .readResponse .. | .readyAssertion | .readyDeassertion | .tick
  | .combineAgeExpiry .. | .claimTimeOut .. | .lingerTimerExpiry .. | .memoryTimeOut .. | .dBusReset | .releaseOfDrstn
  | .powerOnReset | .releaseOfPorn .. | .refclkCycle => []

/-- No timer of the part stands at its limit. -/
abbrev nothingDue (s : State) : Prop :=
  (∀ e ∈ s.pq, e.ageDue = false) ∧ (∀ p ∈ s.prt, p.claimDue = false ∧ p.lingerDue = false) ∧
    ∀ t : TagNo, s.tags[t].due = false

/-- The command is one of the four expiry rows (R15, R60, R61, R81). -/
def isExpiry (c : Instr) : Prop :=
  (∃ i, c = .combineAgeExpiry i) ∨ (∃ i l, c = .claimTimeOut i l) ∨ (∃ i l, c = .lingerTimerExpiry i l) ∨ ∃ t, c = .memoryTimeOut t

/-- The commands, run one after another from the first state, leave the second. -/
def runsTo : List Instr → State → State → Prop
  | [], u, v => u = v
  | c :: rest, u, v => ∃ w, exec c u = .next w ∧ runsTo rest w v

/-- R73: one GRANT after another runs from the first state to the second, and each sends one request of the list, in order. -/
def grantsTo : List LinkRequest → State → State → Prop
  | [], u, v => u = v
  | r :: rest, u, v => ∃ w, exec .grant u = .next w ∧ w.requests = [r] ∧ grantsTo rest w v

/-- The entries after the one of that id in acceptance order. -/
def laterThan (pq : List PqEntry) (id : Nat) : List PqEntry :=
  (pq.dropWhile fun x => x.id != id).tail

/-! ### Invariants that stand alone -/

/-- R1, R44, R134, R138, R135, R139, R144: no table, queue or count passes its limit. -/
abbrev Bounded (s : State) : Prop :=
  s.pq.length ≤ 32 ∧ s.prt.length ≤ 8 ∧ s.nq.length ≤ 16 ∧ s.el.length ≤ 8 ∧ s.noticesLost ≤ 255 ∧ s.errorsLost ≤ 255 ∧
    ∀ c : Fin 19, s.counters[c] ≤ 0xFFFFFFFF

/-- R155, R88, R96: the timer items are in their ranges, and no window's limit page is below its base page. -/
abbrev ItemsInRange (s : State) : Prop :=
  s.timers.combineAge ≤ 255 ∧ 1 ≤ s.timers.claimTime ∧ s.timers.claimTime ≤ 4095 ∧ 1 ≤ s.timers.lingerTime ∧
    s.timers.lingerTime ≤ 1023 ∧ 10 ≤ s.timers.memTimeout ∧ s.timers.memTimeout ≤ 10000 ∧
    ∀ w : WindowNo, s.windows[w].base.toNat ≤ s.windows[w].limit.toNat

/-- R119, R123: in OFFLINE the PQ and the PRT are empty, and in DRAINING they are not both empty. -/
abbrev DrainAgrees (s : State) : Prop :=
  (s.opState = .offline → s.pq = [] ∧ s.prt = []) ∧ (s.opState = .draining → s.pq ≠ [] ∨ s.prt ≠ [])

/-- R163: while PORn is asserted every piece of the part's state stands at its power-on value, and no frame is received; the input pins,
what MISO carried and the waiting commands and inputs are not among them. -/
abbrev HeldAtPowerOn (s : State) : Prop :=
  s.por = true →
    s = { State.reset with
          por := true, drstn := s.drstn, ready := s.ready, refclkStopped := s.refclkStopped, frameInProgress := s.frameInProgress,
          cycleInputs := s.cycleInputs, misos := s.misos, pending := s.pending } ∧
      s.frameInProgress.isReceiving = false

/-- R162, R117: events are held only while REFCLK is stopped; each is an event of one of the three interfaces, and no transaction is held
under the bus reset condition. -/
abbrev HeldAgree (s : State) : Prop :=
  (s.held ≠ [] → s.refclkStopped = true) ∧ (∀ h ∈ s.held, h.port ≠ none) ∧
    (s.busReset = true → ∀ h ∈ s.held, h.port ≠ some .deviceBus)

/-- What waits on the management port is an edge, or the end of a management frame. -/
def PortEvent.isOfPort : PortEvent → Bool
  | .edge _ => true
  | .frameEnd c => portOfInstr c == some .management

/-- R148: while a frame end waits, it is one, and nothing of a later frame has been looked at; nothing waits on the port otherwise. -/
abbrev PortWaits (s : State) : Prop :=
  (∀ h ∈ s.held, h.port = some .management → s.frameInProgress = .csHigh) ∧
    (s.held.filter fun h => h.port = some .management).length ≤ 1 ∧
    (s.portWaiting ≠ [] → ∃ h ∈ s.held, h.port = some .management) ∧ ∀ e ∈ s.portWaiting, e.isOfPort = true

/-- R116: with PORn released the bus reset condition follows the DRSTn line. -/
abbrev BusResetFollows (s : State) : Prop :=
  s.por = false → s.busReset = s.drstn

/-- R145: the relations between counters that hold whatever has saturated. -/
abbrev CountersAgree (s : State) : Prop :=
  s.counter .faultMarks = s.counter .entriesFailed ∧ s.counter .flagsReleased ≤ s.counter .entriesRetired ∧
    s.counter .lingerHits ≤ s.counter .readsDelivered

/-- R145: until a counter concerned saturates, every appended entry has left retired, failed or voided, or is still in the PQ. -/
abbrev EntriesAccounted (s : State) : Prop :=
  s.counter .writesAccepted < 0xFFFFFFFF → s.counter .writesMerged < 0xFFFFFFFF → s.counter .entriesRetired < 0xFFFFFFFF →
    s.counter .entriesFailed < 0xFFFFFFFF → s.counter .flagsVoided < 0xFFFFFFFF →
    s.counter .writesAccepted = s.counter .writesMerged + s.counter .entriesRetired + s.counter .entriesFailed +
      s.counter .flagsVoided + s.pq.length

/-! ### The invariant of the tables -/

/-- R1, R44: entries are distinct objects. -/
abbrev EntriesDistinct (s : State) : Prop :=
  (s.pq.map PqEntry.id).Nodup ∧ (s.prt.map PrtEntry.id).Nodup ∧ (∀ e ∈ s.pq, e.id < s.nextId) ∧ ∀ p ∈ s.prt, p.id < s.nextId

/-- R5: an open-entry field refers to an OPEN entry of its stream, and every OPEN entry is mergeable and is the one its stream's
field refers to. -/
abbrev OpenEntriesAgree (s : State) : Prop :=
  (∀ i : StreamNo, ∀ id ∈ s.streams[i].openEntry, ∃ e ∈ s.pq, e.id = id ∧ e.stream = i ∧ e.isOpen = true) ∧
    ∀ e ∈ s.pq, e.isOpen = true → s.streams[e.stream].openEntry = some e.id ∧ e.isMergeable = true

/-- R28, R5: an OPEN entry is the latest of its line and of its stream. -/
abbrev OpenEntriesLatest (s : State) : Prop :=
  ∀ e ∈ s.pq, e.isOpen = true → ∀ x ∈ laterThan s.pq e.id, x.line ≠ e.line ∧ x.stream ≠ e.stream

/-- R69: the owner of a BUSY tag is ISSUED or FETCHING under it. -/
def ownerAgrees (s : State) (t : TagNo) : Bool :=
  match s.tags[t] with
  | .busy (.pqEntry id) _ => s.pq.any fun e => e.id == id && e.state == .issued t
  | .busy (.prtEntry id) _ => s.prt.any fun p => p.id == id && p.state == .fetching t
  | .busy .orphan _ | .free | .lapsed => true

/-- R69: the tag that an ISSUED or FETCHING entry records is BUSY and owned by it. -/
def tagOwner : Tag → Option Owner
  | .busy o _ => some o
  | .free | .lapsed => none

/-- R69: a PQ entry is ISSUED exactly when a BUSY tag is owned by it, and a PRT entry is FETCHING exactly when one is. -/
abbrev TagsAgree (s : State) : Prop :=
  (∀ t : TagNo, ownerAgrees s t = true) ∧
    (∀ e ∈ s.pq, ∀ t : TagNo, e.state = .issued t → tagOwner s.tags[t] = some (.pqEntry e.id)) ∧
    ∀ p ∈ s.prt, ∀ t : TagNo, p.state = .fetching t → tagOwner s.tags[t] = some (.prtEntry p.id)

/-- The hazard set of a PRT entry; empty where the entry is not WAITING. -/
def PrtEntry.hazards (p : PrtEntry) : List Nat :=
  match p.state with
  | .waiting hs => hs
  | .fetching _ | .parked .. | .lingering .. => []

/-- R16, R20, R56: a hazard set holds entries of the PQ, and none of them is OPEN. -/
abbrev HazardsAgree (s : State) : Prop :=
  ∀ p ∈ s.prt, ∀ h ∈ p.hazards, ∃ e ∈ s.pq, e.id = h ∧ e.isOpen = false

/-- R27 to R30: no entry is ISSUED while an earlier entry that holds it back remains, so at most one entry of a line, and at most
one of a STRICT stream, is ISSUED; and no ISSUED entry carries a void mark (R32, R33). -/
abbrev IssuedInOrder (s : State) : Prop :=
  ∀ e ∈ s.pq, e.isIssued = true → (earlierThan s.pq e.id).any (holdsBack s.streams e) = false ∧ e.isVoidMarked = false

/-- R34: no issuable RELEASE entry with a set void mark waits in the PQ. -/
abbrev NoVoidWaits (s : State) : Prop :=
  ∀ e ∈ s.pq, ¬(issuable s.streams s.pq e = true ∧ e.isVoidMarked = true)

/-- R44, R48: no two PRT entries have the same stream and line, and a LINGERING entry has read-ahead set. -/
abbrev ReadsDistinct (s : State) : Prop :=
  s.prt.Pairwise (fun p q => ¬(p.stream = q.stream ∧ p.line = q.line)) ∧ ∀ p ∈ s.prt, p.isLingering = true → p.readAhead = true

/-- R17, R24, R64, R65, R117, R128: no entry is OPEN outside ONLINE, under the bus reset condition, or in a held stream; none
lingers outside ONLINE; and the PRT is empty under the bus reset condition. -/
abbrev QuietAgrees (s : State) : Prop :=
  (s.opState ≠ .online → (∀ e ∈ s.pq, e.isOpen = false) ∧ ∀ p ∈ s.prt, p.isLingering = false) ∧
    (s.busReset = true → (∀ e ∈ s.pq, e.isOpen = false) ∧ s.prt = []) ∧
    ∀ e ∈ s.pq, s.streams[e.stream].hold = true → e.isOpen = false

/-- The running timer of a PQ entry is in range (R2, R155). -/
def PqEntry.timerOk (e : PqEntry) : Bool :=
  match e.state with
  | .opened age => decide (age.count ≤ age.limit ∧ 1 ≤ age.limit ∧ age.limit ≤ 255)
  | .sealed | .issued _ => true

/-- The running timer of a PRT entry is in range (R45, R155). -/
def PrtEntry.timerOk (p : PrtEntry) : Bool :=
  match p.state with
  | .parked _ claim => decide (claim.count ≤ claim.limit ∧ 1 ≤ claim.limit ∧ claim.limit ≤ 4095)
  | .lingering _ linger => decide (linger.count ≤ linger.limit ∧ 1 ≤ linger.limit ∧ linger.limit ≤ 1023)
  | .waiting _ | .fetching _ => true

/-- The running timer of a tag is in range (R69, R81). -/
def Tag.timerOk : Tag → Bool
  | .busy _ timer => decide (timer.count ≤ timer.limit ∧ 10 ≤ timer.limit ∧ timer.limit ≤ 10000)
  | .free | .lapsed => true

/-- R2, R45, R69, R155: every running timer stands from 0 up to its limit, which lies in its item's range. -/
abbrev TimersInRange (s : State) : Prop :=
  (∀ e ∈ s.pq, e.timerOk = true) ∧ (∀ p ∈ s.prt, p.timerOk = true) ∧ ∀ t : TagNo, s.tags[t].timerOk = true

/-- R162: no timer stands at its limit while REFCLK is stopped: each expired at the tick at which it reached it. -/
abbrev StoppedWithNothingDue (s : State) : Prop :=
  s.refclkStopped = true → nothingDue s

/-- The invariant of the tables: what the rules of the PQ, the PRT, the tags and the stream records say together. -/
structure Inv (s : State) : Prop where
  distinct : EntriesDistinct s
  openAgree : OpenEntriesAgree s
  openLatest : OpenEntriesLatest s
  tags : TagsAgree s
  hazards : HazardsAgree s
  inOrder : IssuedInOrder s
  noVoid : NoVoidWaits s
  reads : ReadsDistinct s
  quiet : QuietAgrees s
  drain : DrainAgrees s
  timers : TimersInRange s
  items : ItemsInRange s
  power : HeldAtPowerOn s
  held : HeldAgree s
  port : PortWaits s
  stopped : StoppedWithNothingDue s
  bus : BusResetFollows s

end Sys2Proof.Machine
end

