-- ==== Sys2Proof/Certificates/Slice0/Obligations.lean ====
section
/-! DEFINITION. The statements for the provers. Each docstring names the rule of spec/ it formalises. -/

open Sys2Proof Sys2Proof.Machine

/-! ### The queue of commands -/

/-- A step takes the command at the front of the queue and runs it on the state with the queue's rest; on an empty queue the part
idles (the model's choice, assumption 3). -/
def Obligations.StepTakesTheFrontCommand : Prop :=
  ∀ s : State,
    (∀ c rest, s.pending = c :: rest → step s = exec c (s.setPending rest)) ∧ (s.pending = [] → step s = .next s)

/-- Every command answers a next state in every state, and leaves the queue of waiting commands as it is, but for the release of a PORn
pulse shorter than the minimum. R163 says only that such a pulse may leave the part in no defined state; that the machine stops on it is the
model's choice (log entry 14). -/
def Obligations.OnlyAShortResetPulseStops : Prop :=
  ∀ (c : Instr) (s : State),
    (∃ t, exec c s = .next t ∧ t.pending = s.pending) ∨
      (exec c s = .fault .resetPulseTooShort ∧ s.por = true ∧ ∃ csLow, c = .releaseOfPorn csLow false)

/-! ### Shared operations -/

/-- R144: a counter goes up by one and stays at its maximum, and no other counter moves. -/
def Obligations.CountersGoUpByOneAndSaturate : Prop :=
  ∀ (c : Counter) (s : State),
    (s.counter c < 0xFFFFFFFF → (bump c s).counter c = s.counter c + 1) ∧
      (s.counter c = 0xFFFFFFFF → (bump c s).counter c = 0xFFFFFFFF) ∧
      (∀ d, d ≠ c → (bump c s).counter d = s.counter d) ∧ bump c s = s.setCounters (bump c s).counters

/-- R37, R135, R137, R139, R142: an offered record or notice joins at the tail while there is room, and is lost and counted otherwise;
the interrupt lines follow the queues. A RELEASE entry whose notify is on offers, as it leaves, the notice of its window, stream, line and
outcome; any other entry offers none. -/
def Obligations.ReportsJoinOrAreLost : Prop :=
  ∀ (s : State) (r : ErrorRecord) (n : Notice) (e : PqEntry) (o : ReleaseOutcome),
    (s.el.length < 8 → offerError r s = s.setEl (s.el ++ [r])) ∧
      (8 ≤ s.el.length → offerError r s = s.setErrorsLost (if s.errorsLost < 255 then s.errorsLost + 1 else s.errorsLost)) ∧
      (s.nq.length < 16 → offerNotice n s = s.setNq (s.nq ++ [n])) ∧
      (16 ≤ s.nq.length → offerNotice n s = s.setNoticesLost (if s.noticesLost < 255 then s.noticesLost + 1 else s.noticesLost)) ∧
      (evtInt s = true ↔ s.nq ≠ []) ∧ (errInt s = true ↔ s.el ≠ [] ∨ s.errorsLost ≠ 0) ∧
      (∀ w v, e.kind = .release w true v →
        noticeOfLeaving e o s = offerNotice { window := w, stream := e.stream, line := e.line, outcome := o } s) ∧
      (∀ w v, e.kind = .release w false v → noticeOfLeaving e o s = s) ∧ ∀ m, e.kind = .plain m → noticeOfLeaving e o s = s

/-- R3, R113: a merge takes the transfer's value at each offset the transfer covers and keeps the entry's own at every other; a delivery
carries, for each offset from the read's own up, the value that the held line has there. -/
def Obligations.MergesAndDeliveriesGoOffsetByOffset : Prop :=
  (∀ (old : ByteSet) (o : Offset) (data : List Byte) (k : Fin 64),
    (mergeBytes old (transferBytes o data))[k] =
      if o.toNat ≤ k.val ∧ k.val < o.toNat + data.length then data[k.val - o.toNat]? else old[k]) ∧
    ∀ (held : LineData) (o : Offset) (n : Nat), o.toNat + n ≤ 64 →
      (lineSlice held o n).length = n ∧
        ∀ k : Fin 64, o.toNat ≤ k.val → k.val < o.toNat + n → (lineSlice held o n)[k.val - o.toNat]? = some held[k]

/-- R90: a page decodes to the lowest-numbered window that is enabled and whose range contains it, and to none when no enabled
window contains it. -/
def Obligations.LowestEnabledWindowDecodes : Prop :=
  ∀ (ws : Vector Window 16) (p : Page),
    (∀ w, decodeWindow ws p = some w ↔
      (ws[w].enabled = true ∧ ws[w].base.toNat ≤ p.toNat ∧ p.toNat ≤ ws[w].limit.toNat) ∧
        ∀ v, v < w → ¬(ws[v].enabled = true ∧ ws[v].base.toNat ≤ p.toNat ∧ p.toNat ≤ ws[v].limit.toNat)) ∧
      (decodeWindow ws p = none ↔
        ∀ v : WindowNo, ¬(ws[v].enabled = true ∧ ws[v].base.toNat ≤ p.toNat ∧ p.toNat ≤ ws[v].limit.toNat))

/-- R20, R34, R36, R37, R38, R135: the judging of marked release entries. Those that leave are SEALED, RELEASE, marked, and not held back by
an earlier entry that remains; none that remains could be voided; each that leaves is counted once and leaves the hazard sets, every other
hazard staying. Each with notify on offers its notice, in acceptance order: the first ones join the NQ while it holds fewer than 16, and the
rest are counted in NOTICES_LOST, which stays at 255. -/
def Obligations.MarkedFlagsAreVoidedInOrder : Prop :=
  ∀ s : State, EntriesDistinct s → s.counter .flagsVoided ≤ 0xFFFFFFFF →
    let t := voidPass s
    let gone := s.pq.filter fun e => e ∉ t.pq
    let offered : List Notice := gone.filterMap fun e =>
      match e.kind with
      | .release w true _ => some { window := w, stream := e.stream, line := e.line, outcome := .voided }
      | _ => none
    t.pq = s.pq.filter (fun e => e ∉ gone) ∧
      (∀ e ∈ gone, e.isSealed = true ∧ e.isVoidMarked = true ∧
        ∀ x ∈ earlierThan s.pq e.id, x ∈ t.pq → holdsBack s.streams e x = false) ∧
      (∀ e ∈ t.pq, ¬(issuable s.streams t.pq e = true ∧ e.isVoidMarked = true)) ∧
      t.counter .flagsVoided = min 0xFFFFFFFF (s.counter .flagsVoided + gone.length) ∧
      (∀ d, d ≠ .flagsVoided → t.counter d = s.counter d) ∧
      t.nq = s.nq ++ offered.take (16 - s.nq.length) ∧
      t.noticesLost = max s.noticesLost (min 255 (s.noticesLost + (offered.length - (16 - s.nq.length)))) ∧
      t.prt = prtAfterLeaving (gone.map PqEntry.id) s.prt ∧
      t = ((((s.setPq t.pq).setPrt t.prt).setCounters t.counters).setNq t.nq).setNoticesLost t.noticesLost

/-! ### D-bus transactions -/

/-- R107: a transaction whose byte count is 0, or that would run past the end of its line, is answered ABORT with a MALFORMED record,
counted in ABORTS, and changes nothing else. -/
def Obligations.MalformedTransactionsAbort : Prop :=
  ∀ (s : State) (i : StreamNo) (a : Address), takesTransactions s →
    (∀ data : List Byte, data = [] ∨ 64 < (offsetOf a).toNat + data.length →
      exec (.write i a data) s = .next (bump .aborts ((offerError (.malformed i (lineOf a)) s).setAnswers [.abort]))) ∧
      ∀ n : Nat, n = 0 ∨ 64 < (offsetOf a).toNat + n →
        exec (.read i a n) s = .next (bump .aborts ((offerError (.malformed i (lineOf a)) s).setAnswers [.abort]))

/-- R91, R92: a well-formed transaction whose page no enabled window contains, or whose window refuses its kind, is answered ABORT
with its record, in every operating state and whatever the hold, and changes nothing else. -/
def Obligations.DecodeAbortsUnmappedAndRefused : Prop :=
  ∀ (s : State) (i : StreamNo) (a : Address) (data : List Byte) (n : Nat), takesTransactions s →
    data ≠ [] → (offsetOf a).toNat + data.length ≤ 64 → n ≠ 0 → (offsetOf a).toNat + n ≤ 64 →
    ((∀ v : WindowNo, windowContains s.windows[v] (pageOf a) = false) →
      exec (.write i a data) s = .next (bump .aborts ((offerError (.unmapped i (lineOf a)) s).setAnswers [.abort])) ∧
        exec (.read i a n) s = .next (bump .aborts ((offerError (.unmapped i (lineOf a)) s).setAnswers [.abort]))) ∧
      ∀ w : WindowNo, decodesTo s a w →
        (s.windows[w].writeTreatment = .refuse →
          exec (.write i a data) s = .next (bump .aborts ((offerError (.refused i (lineOf a) w) s).setAnswers [.abort]))) ∧
          (s.windows[w].readTreatment = .refuse →
            exec (.read i a n) s = .next (bump .aborts ((offerError (.refused i (lineOf a) w) s).setAnswers [.abort])))

/-- R109, R110, R48: a write that passes decode, and a read that passes it without a match, is answered RETRY NOT_ONLINE unless the part is
ONLINE, and then RETRY HELD when its stream is held; nothing else changes. -/
def Obligations.StateCheckComesBeforeHoldCheck : Prop :=
  ∀ (s : State) (i : StreamNo) (a : Address) (data : List Byte) (n : Nat) (w : WindowNo), takesTransactions s → decodesTo s a w →
    (data ≠ [] → (offsetOf a).toNat + data.length ≤ 64 → s.windows[w].writeTreatment ≠ .refuse →
      (s.opState ≠ .online → exec (.write i a data) s = .next (bump .retriesNotOnline (s.setAnswers [.retry .notOnline]))) ∧
        (s.opState = .online → s.streams[i].hold = true →
          exec (.write i a data) s = .next (bump .retriesHeld (s.setAnswers [.retry .held])))) ∧
      (n ≠ 0 → (offsetOf a).toNat + n ≤ 64 → s.windows[w].readTreatment ≠ .refuse →
        (∀ p ∈ s.prt, ¬(p.stream = i ∧ p.line = lineOf a ∧
          (p.readAhead = true ∨ (p.originOffset = offsetOf a ∧ p.originCount = n)))) →
        (s.opState ≠ .online → exec (.read i a n) s = .next (bump .retriesNotOnline (s.setAnswers [.retry .notOnline]))) ∧
          (s.opState = .online → s.streams[i].hold = true →
            exec (.read i a n) s = .next (bump .retriesHeld (s.setAnswers [.retry .held]))))

/-- R115: every transaction that the part takes advances exactly one of the ten answer counters, by one unless it has saturated. -/
def Obligations.EachTransactionCountsOnce : Prop :=
  ∀ (s t : State) (i : StreamNo) (a : Address) (data : List Byte) (n : Nat), takesTransactions s →
    exec (.write i a data) s = .next t ∨ exec (.read i a n) s = .next t →
    let ten : List Counter := [.writesAccepted, .readsDelivered, .aborts, .retriesNotOnline, .retriesHeld, .retriesQueueFull,
      .retriesParked, .retriesNotReady, .retriesLineBusy, .retriesTableFull]
    ∃ c ∈ ten, t.counter c = (if s.counter c < 0xFFFFFFFF then s.counter c + 1 else s.counter c) ∧
      ∀ d ∈ ten, d ≠ c → t.counter d = s.counter d

/-- R7, R13, R62: a MERGE write merges into its stream's OPEN entry on its line, also in a full queue; the entry is sealed when it
then holds a byte at each of the 64 offsets, its age is not restarted, and the PRT meets the write. -/
def Obligations.MergeWriteJoinsTheOpenEntry : Prop :=
  ∀ (s : State) (i : StreamNo) (a : Address) (data : List Byte) (w : WindowNo) (e : PqEntry), Inv s →
    writeReaches s i a data w → s.windows[w].writeTreatment = .merge →
    e ∈ s.pq → e.isOpen = true → e.stream = i → e.line = lineOf a →
    let merged := mergeBytes e.bytes (transferBytes (offsetOf a) data)
    let whole := ∀ k : Fin 64, merged[k] ≠ none
    exec (.write i a data) s = .next
      (((((s.setPq (s.pq.map fun x =>
          if x.id = e.id then { x with bytes := merged, state := if whole then .sealed else x.state } else x)).setPrt
        (s.prt.filterMap (afterWriteOn (lineOf a)))).setStreams
        (if whole then s.streams.set i { s.streams[i] with openEntry := none } else s.streams)).setCounters
        (bump .writesAccepted (bump .writesMerged s)).counters).setAnswers [.accept])

/-- R8, R9, R11, R13, R62: a POST write with room appends a SEALED PLAIN entry after the seals of R9. -/
def Obligations.PostWriteAppendsASealedEntry : Prop :=
  ∀ (s : State) (i : StreamNo) (a : Address) (data : List Byte) (w : WindowNo), Inv s →
    writeReaches s i a data w → s.windows[w].writeTreatment = .post → s.pq.length < 32 →
    exec (.write i a data) s = .next
      ((((((s.setPq (s.pq.map (sealedByAppend i (lineOf a)) ++
          [{ id := s.nextId, stream := i, line := lineOf a, bytes := transferBytes (offsetOf a) data, kind := .plain false,
             state := .sealed }])).setPrt
        (s.prt.filterMap (afterWriteOn (lineOf a)))).setStreams (streamsAfterAppend i (lineOf a) s)).setNextId
        (s.nextId + 1)).setCounters (bump .writesAccepted s).counters).setAnswers [.accept])

/-- R8, R9, R10, R13, R62: a MERGE write that finds no OPEN entry of its stream on its line appends an OPEN entry with age 0 and the
COMBINE_AGE in force as its limit; the entry is SEALED at once when COMBINE_AGE is 0 or the transfer covers the line. -/
def Obligations.MergeWriteOpensAnEntry : Prop :=
  ∀ (s : State) (i : StreamNo) (a : Address) (data : List Byte) (w : WindowNo), Inv s →
    writeReaches s i a data w → s.windows[w].writeTreatment = .merge → s.pq.length < 32 →
    (∀ e ∈ s.pq, e.isOpen = true → e.stream = i → e.line ≠ lineOf a) →
    let atOnce := s.timers.combineAge = 0 ∨ data.length = 64
    exec (.write i a data) s = .next
      ((((((s.setPq (s.pq.map (sealedByAppend i (lineOf a)) ++
          [{ id := s.nextId, stream := i, line := lineOf a, bytes := transferBytes (offsetOf a) data, kind := .plain true,
             state := if atOnce then .sealed else .opened { count := 0, limit := s.timers.combineAge } }])).setPrt
        (s.prt.filterMap (afterWriteOn (lineOf a)))).setStreams
        ((streamsAfterAppend i (lineOf a) s).set i
          { s.streams[i] with openEntry := if atOnce then none else some s.nextId })).setNextId
        (s.nextId + 1)).setCounters (bump .writesAccepted s).counters).setAnswers [.accept])

/-- R8, R9, R12, R32, R34, R36, R37: a RELEASE write with room appends a SEALED RELEASE entry with its window and notify and with its
stream's fault mark as its void mark. With that mark set and no earlier entry of its stream or on its line, it is accepted and voided in
the same event. -/
def Obligations.ReleaseWriteAppendsAFlag : Prop :=
  ∀ (s : State) (i : StreamNo) (a : Address) (data : List Byte) (w : WindowNo), Inv s →
    writeReaches s i a data w → s.windows[w].writeTreatment = .release → s.pq.length < 32 →
    let noted :=
      if s.windows[w].notify then offerNotice { window := w, stream := i, line := lineOf a, outcome := .voided } s else s
    (s.streams[i].faultMark = false ∨ (∃ e ∈ s.pq, e.stream = i ∨ e.line = lineOf a) →
      exec (.write i a data) s = .next
        ((((((s.setPq (s.pq.map (sealedByAppend i (lineOf a)) ++
            [{ id := s.nextId, stream := i, line := lineOf a, bytes := transferBytes (offsetOf a) data,
               kind := .release w s.windows[w].notify s.streams[i].faultMark, state := .sealed }])).setPrt
          (s.prt.filterMap (afterWriteOn (lineOf a)))).setStreams (streamsAfterAppend i (lineOf a) s)).setNextId
          (s.nextId + 1)).setCounters (bump .writesAccepted s).counters).setAnswers [.accept])) ∧
      (s.streams[i].faultMark = true → (∀ e ∈ s.pq, e.stream ≠ i ∧ e.line ≠ lineOf a) →
        exec (.write i a data) s = .next
          ((((noted.setPrt (s.prt.filterMap (afterWriteOn (lineOf a)))).setNextId (s.nextId + 1)).setCounters
            (bump .writesAccepted (bump .flagsVoided s)).counters).setAnswers [.accept]))

/-- R8: a write that needs a new entry while the PQ holds 32 is answered RETRY QUEUE_FULL, and nothing else changes. -/
def Obligations.FullQueueRefusesANewEntry : Prop :=
  ∀ (s : State) (i : StreamNo) (a : Address) (data : List Byte) (w : WindowNo), Inv s →
    writeReaches s i a data w → s.windows[w].writeTreatment ≠ .refuse → s.pq.length = 32 →
    (s.windows[w].writeTreatment = .merge → ∀ e ∈ s.pq, e.isOpen = true → e.stream = i → e.line ≠ lineOf a) →
    exec (.write i a data) s = .next (bump .retriesQueueFull (s.setAnswers [.retry .queueFull]))

/-- R48, R49, R50, R52: a read of an entry's stream and line matches it when its read-ahead is set, or when the read repeats its origin exactly. A read that
matches an entry in WAITING or FETCHING is answered RETRY NOT_READY, and the entry does not change; one
that matches a PARKED entry with fault is answered ABORT, and the entry is freed with no record; one that matches a LINGERING entry is
answered DATA from the held line, and the entry stays as it is, its linger timer included. Each is counted. -/
def Obligations.MatchedReadsAnswerByTheEntrysState : Prop :=
  ∀ (s : State) (i : StreamNo) (a : Address) (n : Nat) (w : WindowNo) (p : PrtEntry), Inv s → readDecodes s a n w →
    p ∈ s.prt → p.stream = i → p.line = lineOf a →
    (p.readAhead = true ∨ (p.originOffset = offsetOf a ∧ p.originCount = n)) →
    (((∃ hs, p.state = .waiting hs) ∨ ∃ t, p.state = .fetching t) →
      exec (.read i a n) s = .next (bump .retriesNotReady (s.setAnswers [.retry .notReady]))) ∧
      (∀ claim, p.state = .parked .fault claim →
        exec (.read i a n) s = .next
          ((((s.setPrt (prtWithout s p.id)).setOpState (opStateAfterFree s (prtWithout s p.id))).setCounters
            (bump .aborts s).counters).setAnswers [.abort])) ∧
      ∀ line linger, p.state = .lingering line linger →
        exec (.read i a n) s = .next
          ((s.setCounters (bump .lingerHits (bump .readsDelivered s)).counters).setAnswers
            [.data (lineSlice line (offsetOf a) n)])

/-- R48, R51, R63: a read that matches a PARKED entry without fault is answered DATA; the entry becomes LINGERING with the LINGER_TIME in
force when its read-ahead is set and the part is ONLINE, and is freed otherwise. -/
def Obligations.ClaimDeliversAndLingersOrFrees : Prop :=
  ∀ (s : State) (i : StreamNo) (a : Address) (n : Nat) (w : WindowNo) (p : PrtEntry) (line : LineData) (claim : Timer), Inv s →
    readDecodes s a n w → p ∈ s.prt → p.stream = i → p.line = lineOf a →
    (p.readAhead = true ∨ (p.originOffset = offsetOf a ∧ p.originCount = n)) → p.state = .parked (.data line) claim →
    (p.readAhead = true → s.opState = .online →
      exec (.read i a n) s = .next
        (((s.setPrt (s.prt.map fun q =>
            if q.id = p.id then { q with state := .lingering line { count := 0, limit := s.timers.lingerTime } } else q)).setCounters
          (bump .readsDelivered s).counters).setAnswers [.data (lineSlice line (offsetOf a) n)])) ∧
      (p.readAhead = false ∨ s.opState ≠ .online →
        exec (.read i a n) s = .next
          ((((s.setPrt (prtWithout s p.id)).setOpState (opStateAfterFree s (prtWithout s p.id))).setCounters
            (bump .readsDelivered s).counters).setAnswers [.data (lineSlice line (offsetOf a) n)]))

/-- R48, R53, R54: a park request of a stream that has a non-matching entry on the line is answered LINE_BUSY; one that finds 8 entries, none
of them LINGERING, is answered TABLE_FULL; nothing else changes. -/
def Obligations.ParkRequestFindsLineBusyOrTableFull : Prop :=
  ∀ (s : State) (i : StreamNo) (a : Address) (n : Nat) (w : WindowNo), readDecodes s a n w → s.opState = .online →
    s.streams[i].hold = false → (∀ p ∈ s.prt, ¬(p.stream = i ∧ p.line = lineOf a ∧
      (p.readAhead = true ∨ (p.originOffset = offsetOf a ∧ p.originCount = n)))) →
    ((∃ p ∈ s.prt, p.stream = i ∧ p.line = lineOf a) →
      exec (.read i a n) s = .next (bump .retriesLineBusy (s.setAnswers [.retry .lineBusy]))) ∧
      ((∀ p ∈ s.prt, ¬(p.stream = i ∧ p.line = lineOf a)) → 8 ≤ s.prt.length → (∀ p ∈ s.prt, p.isLingering = false) →
        exec (.read i a n) s = .next (bump .retriesTableFull (s.setAnswers [.retry .tableFull])))

/-- R54, R55, R56, R16: a park request with room adds a WAITING entry after the others, with every PQ entry on its line, and in a STRICT
stream every PQ entry of its stream, as its hazard set; the OPEN entries of the set are sealed. With 8 entries the oldest LINGERING one
makes room. `rest` are the entries that stay. -/
def Obligations.ReadParksBehindItsHazards : Prop :=
  ∀ (s : State) (i : StreamNo) (a : Address) (n : Nat) (w : WindowNo) (rest : List PrtEntry), Inv s → readDecodes s a n w →
    s.opState = .online → s.streams[i].hold = false → (∀ p ∈ s.prt, ¬(p.stream = i ∧ p.line = lineOf a)) →
    ((s.prt.length < 8 ∧ rest = s.prt) ∨
      (s.prt.length = 8 ∧ ∃ before p after, s.prt = before ++ p :: after ∧ p.isLingering = true ∧
        (∀ q ∈ before, q.isLingering = false) ∧ rest = before ++ after)) →
    let hazard := fun e : PqEntry => decide (e.line = lineOf a ∨ (s.streams[i].orderMode = .strict ∧ e.stream = i))
    exec (.read i a n) s = .next
      ((((((s.setPrt (rest ++
          [{ id := s.nextId, stream := i, line := lineOf a, originOffset := offsetOf a, originCount := n,
             readAhead := decide (s.windows[w].readTreatment = .line),
             state := .waiting ((s.pq.filter hazard).map PqEntry.id) }])).setPq
        (s.pq.map fun e => if hazard e then e.toSealed else e)).setStreams
        (Vector.ofFn fun j =>
          if ∃ e ∈ s.pq, e.isOpen = true ∧ hazard e = true ∧ e.stream = j then { s.streams[j] with openEntry := none }
          else s.streams[j])).setNextId
        (s.nextId + 1)).setCounters (bump .retriesParked s).counters).setAnswers [.retry .parked])

/-! ### Order -/

/-- R27, R28, R29, R30: an entry is issuable exactly when it is SEALED and no entry accepted before it is on its line, or is of its stream
where the stream is STRICT or the entry is a RELEASE entry. Of the entries of one line, and of those of a STRICT stream, at most one is
ISSUED; and an ISSUED RELEASE entry has no earlier entry of its stream before it. -/
def Obligations.IssueFollowsTheOrderRules : Prop :=
  (∀ (s : State) (before after : List PqEntry) (e : PqEntry), EntriesDistinct s → s.pq = before ++ e :: after →
    (issuable s.streams s.pq e = true ↔ e.state = .sealed ∧ ∀ x ∈ before, x.line ≠ e.line ∧
      (s.streams[e.stream].orderMode = .strict → x.stream ≠ e.stream) ∧
      ((∃ w n v, e.kind = .release w n v) → x.stream ≠ e.stream))) ∧
    ∀ s : State, Inv s →
      (∀ e ∈ s.pq, ∀ x ∈ s.pq, ∀ t u : TagNo, e.state = .issued t → x.state = .issued u →
        e.line = x.line ∨ (e.stream = x.stream ∧ s.streams[e.stream].orderMode = .strict) → e = x) ∧
      ∀ before after : List PqEntry, ∀ e : PqEntry, s.pq = before ++ e :: after → (∃ t, e.state = .issued t) →
        (∃ w n v, e.kind = .release w n v) → ∀ x ∈ before, x.stream ≠ e.stream

/-! ### The memory link -/

/-- R18, R57, R70 to R73: a grant takes the lowest FREE tag with the MEM_TIMEOUT in force and sends the request. To the write class: the
oldest write candidate becomes ISSUED; the class is granted when it alone waits, under write pressure, or in its turn. To the read class:
the oldest WAITING entry with an empty hazard set becomes FETCHING; the class is granted when it alone waits, or in its turn without write
pressure. -/
def Obligations.GrantSendsTheOldestCandidate : Prop :=
  ∀ (s : State) (t : TagNo), Inv s → s.por = false → s.ready = true → s.tags[t] = .free → (∀ u, u < t → s.tags[u] ≠ .free) →
    (∀ e ∈ s.pq, issuable s.streams s.pq e = true → e.isVoidMarked = false →
      (∀ x ∈ earlierThan s.pq e.id, ¬(issuable s.streams s.pq x = true ∧ x.isVoidMarked = false)) →
      ((∀ p ∈ s.prt, p.isCandidate = false) ∨ 24 ≤ s.pq.length ∨ s.lastGranted = .read) →
      exec .grant s = .next
        ((((s.setTags (s.tags.set t (.busy (.pqEntry e.id) { count := 0, limit := s.timers.memTimeout }))).setPq
          (s.pq.map fun x => if x.id = e.id then { x with state := .issued t } else x)).setLastGranted .write).setRequests
          [.writeRequest t e.line e.bytes])) ∧
      ∀ (before after : List PrtEntry) (p : PrtEntry),
        s.prt = before ++ p :: after → (∀ q ∈ before, q.isCandidate = false) → p.state = .waiting [] →
        ((∀ x ∈ s.pq, ¬(issuable s.streams s.pq x = true ∧ x.isVoidMarked = false)) ∨
          (s.pq.length < 24 ∧ s.lastGranted = .write)) →
        exec .grant s = .next
          ((((s.setTags (s.tags.set t (.busy (.prtEntry p.id) { count := 0, limit := s.timers.memTimeout }))).setPrt
            (before ++ { p with state := .fetching t } :: after)).setLastGranted .read).setRequests
            [.readRequest t p.line])

/-- R68, R70, R73: a grant is made exactly when PORn is released, ready is asserted, a tag is FREE and a candidate waits; when none is
made, nothing changes but the request output. No REFCLK cycle and no tick leaves a grant due: a grant that no command took is made in it.
That the grants of an event come when GRANT is commanded, or else with the next REFCLK cycle, and what a GRANT does that is not due, is the
model's choice (log entry 7). -/
def Obligations.GrantIsMadeExactlyWhenDue : Prop :=
  ∀ s : State,
    (∃ t, exec .grant s = .next t ∧ (t.requests ≠ [] ↔ grantDue s = true) ∧ (grantDue s = false → t = s.setRequests [])) ∧
      ∀ (c : Instr) (t : State), c = .tick ∨ c = .refclkCycle → exec c s = .next t → grantDue t = false

/-- R68, R117: the pin commands: ready follows the memory controller, and the release of DRSTn releases the bus reset condition; nothing else
changes. That they do so also while PORn is asserted is the model's reading (log entry 15). -/
def Obligations.PinCommandsChangeTheirPinsAlone : Prop :=
  ∀ s : State, exec .readyAssertion s = .next (s.setReady true) ∧ exec .readyDeassertion s = .next (s.setReady false) ∧
    exec .releaseOfDrstn s = .next ((s.setDrstn false).setBusReset false)

/-- R75, R20, R21, R31, R32, R36, R57: a Write Response for the tag of an ISSUED entry frees the tag, and the entry leaves the PQ and the
hazard sets, in which every other hazard stays. With OK it is retired: it is counted, a RELEASE entry offers its notice, and what it held back is judged again. With FAULT it
fails: WRITE_FAULT is offered, it is counted, the fault mark of its stream is set, and the void mark of every SEALED RELEASE entry of its
stream; every other entry is as it was; what it held back is judged with the new marks in place. In both cases a drain may complete. -/
def Obligations.WriteResponseRetiresOrFailsTheEntry : Prop :=
  ∀ (s : State) (t : TagNo) (e : PqEntry), Inv s → takesResponses s → e ∈ s.pq → e.state = .issued t →
    let drained := fun u : State => if u.opState = .draining ∧ u.pq = [] ∧ u.prt = [] then u.setOpState .offline else u
    let left := ((s.setTags (s.tags.set t .free)).setPq (s.pq.filter fun x => x.id ≠ e.id)).setPrt
      (prtAfterLeaving [e.id] s.prt)
    exec (.writeResponse t .ok) s = .next (drained (voidPass (noticeOfLeaving e .released (left.setCounters
        (if e.isRelease then (bump .flagsReleased (bump .entriesRetired s)).counters else (bump .entriesRetired s).counters))))) ∧
      exec (.writeResponse t .fault) s = .next (drained (voidPass (noticeOfLeaving e .failed
        (afterFailure e (offerError (.writeFault e.stream e.line t) left)))))

/-- R58, R59, R76: a Read Response for the tag of a FETCHING entry parks it with the data, or with the fault and a READ_FAULT record, and
its claim timer starts with the CLAIM_TIME in force. -/
def Obligations.ReadResponseParksTheFetchedEntry : Prop :=
  ∀ (s : State) (t : TagNo) (p : PrtEntry) (line : LineData), Inv s → takesResponses s → p ∈ s.prt → p.state = .fetching t →
    exec (.readResponse t (.ok line)) s = .next
        ((s.setTags (s.tags.set t .free)).setPrt (s.prt.map fun q =>
          if q.id = p.id then { q with state := .parked (.data line) { count := 0, limit := s.timers.claimTime } } else q)) ∧
      exec (.readResponse t .fault) s = .next
        (((offerError (.readFault p.stream p.line t) s).setTags (s.tags.set t .free)).setPrt (s.prt.map fun q =>
          if q.id = p.id then { q with state := .parked .fault { count := 0, limit := s.timers.claimTime } } else q))

/-- R77, R78, R79, R80: responses that end no request: a Read Response for an orphan tag frees the tag with no record; a response for a
LAPSED tag frees it with a LATE_RESPONSE record; a response for a FREE tag, or of the other class than its BUSY tag, changes nothing but
the EL, which is offered an UNEXPECTED_RESPONSE record. -/
def Obligations.StrayResponsesEndNoRequest : Prop :=
  ∀ (s : State) (t : TagNo) (st : ResponseStatus) (r : ReadResult), takesResponses s →
    (∀ timer, s.tags[t] = .busy .orphan timer → exec (.readResponse t r) s = .next (s.setTags (s.tags.set t .free))) ∧
      (s.tags[t] = .lapsed →
        exec (.writeResponse t st) s = .next ((offerError (.lateResponse t) s).setTags (s.tags.set t .free)) ∧
          exec (.readResponse t r) s = .next ((offerError (.lateResponse t) s).setTags (s.tags.set t .free))) ∧
      (s.tags[t] = .free ∨ (∃ o timer, s.tags[t] = .busy o timer ∧ o.linkClass = .read) →
        exec (.writeResponse t st) s = .next (offerError (.unexpectedResponse t) s)) ∧
      (s.tags[t] = .free ∨ (∃ o timer, s.tags[t] = .busy o timer ∧ o.linkClass = .write) →
        exec (.readResponse t r) s = .next (offerError (.unexpectedResponse t) s))

/-! ### The timebase -/

/-- R162: with no timer at its limit, no grant due and no event held, a tick returns the count of REFCLK cycles to 0 and advances every
running timer by one, and a REFCLK cycle before the count of 49 changes the count alone; the cycle at 49 is the tick. `x` is what the board
does on the other pins at the cycle. Where REFCLK stops after the cycle, the timers that reach their limit at it expire at it: the cycle is
the one of a REFCLK that runs on, followed by expiry rows after which no timer stands at its limit and by the grants that are then due
(R73), whose requests it sends in order, and then the stop. (What comes first where something is due, that a TICK is commanded before the count of 49, and how a stop of
REFCLK and the port's edges come, are the model's choices: log entries 4, 5, 7, 20, 23.) -/
def Obligations.TickAdvancesEveryRunningTimer : Prop :=
  ∀ s : State, s.por = false → nothingDue s → grantDue s = false → s.held = [] →
    let ticked := (((s.setPq (s.pq.map fun e =>
        match e.state with
        | .opened age => { e with state := .opened { age with count := age.count + 1 } }
        | _ => e)).setPrt (s.prt.map fun p =>
        match p.state with
        | .parked r claim => { p with state := .parked r { claim with count := claim.count + 1 } }
        | .lingering d linger => { p with state := .lingering d { linger with count := linger.count + 1 } }
        | _ => p)).setTags (Vector.ofFn fun t =>
        match s.tags[t] with
        | .busy o timer => .busy o { timer with count := timer.count + 1 }
        | tag => tag)).setTbCount 0
    exec .tick s = .next ((clearOutputs ticked).setRefclkStopped false) ∧
      ∀ (x : CycleInput) (rest : List CycleInput),
        s.cycleInputs = x :: rest ∨ (s.cycleInputs = [] ∧ x.edges = [] ∧ x.stops = false ∧ rest = []) →
        let counted := clearOutputs (if s.tbCount = 49 then ticked else s.setTbCount (s.tbCount + 1))
        let cycle := ((counted.setCycleInputs rest).setRefclkStopped false).setFrameInProgress
          (x.edges.foldl (FrameProgress.edge false s.reply) s.frameInProgress)
        (x.stops = false → exec .refclkCycle s = .next cycle) ∧
          (Inv s → x.stops = true → ∃ (rows : List Instr) (sent : List LinkRequest) (u v : State), (∀ r ∈ rows, isExpiry r) ∧
            runsTo rows cycle u ∧ grantsTo sent u v ∧ nothingDue v ∧ grantDue v = false ∧
            exec .refclkCycle s = .next ((v.setRequests sent).setRefclkStopped true))

/-- The model's choice (log entries 4 and 7), after R162 and R73: no expiry outlives its tick: the next REFCLK cycle or TICK leaves no entry
OPEN, PARKED, LINGERING or tag BUSY whose timer was at its limit; the tag is LAPSED unless an event held until this cycle frees it, and
BUSY only where it was then granted again. What is due and was not commanded comes first: the cycle is expiry rows after which no timer
stands at its limit, GRANT after GRANT until none is due, and then the cycle itself; it sends the request of each GRANT, in order, and
then those of the cycle itself. R162: a REFCLK that
stops leaves no timer at its limit. -/
def Obligations.DueExpiriesAreTakenByTheNextCycle : Prop :=
  ∀ (s t : State) (c : Instr), Inv s → s.por = false → c = .tick ∨ c = .refclkCycle → exec c s = .next t →
    (∀ e ∈ s.pq, e.ageDue = true → ∀ x ∈ t.pq, x.id = e.id → x.isOpen = false) ∧
      (∀ p ∈ s.prt, p.claimDue = true ∨ p.lingerDue = true → ∀ q ∈ t.prt, q.id ≠ p.id) ∧
      (∀ u : TagNo, s.tags[u].due = true → (s.held = [] → t.tags[u] = .lapsed) ∧
        (t.tags[u].isBusy = true → (∃ l bytes, .writeRequest u l bytes ∈ t.requests) ∨ ∃ l, .readRequest u l ∈ t.requests)) ∧
      (t.refclkStopped = true → nothingDue t) ∧
      ∃ (rows : List Instr) (sent : List LinkRequest) (u v w : State), (∀ r ∈ rows, isExpiry r) ∧ runsTo rows s u ∧
        grantsTo sent u v ∧ nothingDue v ∧ grantDue v = false ∧ exec c v = .next w ∧
        t = w.setRequests (sent ++ w.requests)

/-- R14, R15, R60, R61, R63: the expiries of the entries' timers: at the limit of its age an OPEN entry is sealed and its stream's
open-entry field becomes none; at the limit of its claim timer a PARKED entry is freed with a READ_UNCLAIMED record and counted; at the
limit of its linger timer a LINGERING entry is freed with none; a drain may complete. -/
def Obligations.EntryTimersSealOrFreeTheirEntries : Prop :=
  ∀ s : State, Inv s → timersCanExpire s →
    (∀ e ∈ s.pq, e.ageDue = true →
      exec (.combineAgeExpiry e.stream) s = .next
        ((s.setPq (s.pq.map fun x => if x.id = e.id then { x with state := .sealed } else x)).setStreams
          (s.streams.set e.stream { s.streams[e.stream] with openEntry := none }))) ∧
      ∀ p ∈ s.prt,
        (p.claimDue = true →
          exec (.claimTimeOut p.stream p.line) s = .next
            ((((offerError (.readUnclaimed p.stream p.line) s).setPrt (prtWithout s p.id)).setOpState
              (opStateAfterFree s (prtWithout s p.id))).setCounters (bump .readsUnclaimed s).counters)) ∧
          (p.lingerDue = true →
            exec (.lingerTimerExpiry p.stream p.line) s = .next
              ((s.setPrt (prtWithout s p.id)).setOpState (opStateAfterFree s (prtWithout s p.id))))

/-- R81, R83, R20, R57: at the limit of its timer a BUSY tag becomes LAPSED and MEM_TIMEOUTS goes up; an ISSUED owner fails with
WRITE_TIMEOUT and leaves the PQ and the hazard sets, in which every other hazard stays; a FETCHING owner is PARKED with fault and READ_TIMEOUT, an orphan owner is told nothing; TAGS_EXHAUSTED follows at the sixteenth. -/
def Obligations.MemoryTimeOutLapsesTheTag : Prop :=
  ∀ (s : State) (t : TagNo) (o : Owner) (timer : Timer), Inv s → timersCanExpire s → s.tags[t] = .busy o timer →
    timer.limit ≤ timer.count →
    let lapsed := (s.setTags (s.tags.set t .lapsed)).setCounters (bump .memTimeouts s).counters
    let drained := fun u : State => if u.opState = .draining ∧ u.pq = [] ∧ u.prt = [] then u.setOpState .offline else u
    let exhausted := fun u : State => if ∀ v : TagNo, u.tags[v] = .lapsed then offerError .tagsExhausted u else u
    (o = .orphan → exec (.memoryTimeOut t) s = .next (exhausted lapsed)) ∧
      (∀ p ∈ s.prt, o = .prtEntry p.id →
        exec (.memoryTimeOut t) s = .next (exhausted
          ((offerError (.readTimeout p.stream p.line t) lapsed).setPrt (s.prt.map fun q =>
            if q.id = p.id then { q with state := .parked .fault { count := 0, limit := s.timers.claimTime } } else q)))) ∧
      ∀ e ∈ s.pq, o = .pqEntry e.id →
        exec (.memoryTimeOut t) s = .next (exhausted
          (drained (voidPass (noticeOfLeaving e .failed
            (afterFailure e (offerError (.writeTimeout e.stream e.line t) ((lapsed.setPq (s.pq.filter fun x => x.id ≠ e.id)).setPrt
              (prtAfterLeaving [e.id] s.prt))))))))

/-! ### Events held while REFCLK is stopped -/

/-- R162: while REFCLK is stopped a D-bus transaction gets no answer yet, a response is not taken, and a frame whose end comes is not
executed: each waits behind those that came before it, as it was received, and nothing else changes but the outputs and the end of the
frame; and no timer expires. R148: behind a frame end that waits nothing of the port is looked at: the end of a later frame waits with the
edges before it, and nothing else changes but MISO's record. How a later frame waits is the model's reading (log entry 24). -/
def Obligations.ArrivalsWaitWhileRefclkIsStopped : Prop :=
  ∀ s : State, s.por = false → s.refclkStopped = true →
    (∀ (i : StreamNo) (a : Address) (data : List Byte) (n : Nat), s.busReset = false →
      exec (.write i a data) s = .next ((s.setHeld (s.held ++ [.arrival (.write i a data)])).setAnswers []) ∧
        exec (.read i a n) s = .next ((s.setHeld (s.held ++ [.arrival (.read i a n)])).setAnswers [])) ∧
      (∀ (t : TagNo) (st : ResponseStatus) (r : ReadResult),
        exec (.writeResponse t st) s = .next (s.setHeld (s.held ++ [.arrival (.writeResponse t st)])) ∧
          exec (.readResponse t r) s = .next (s.setHeld (s.held ++ [.arrival (.readResponse t r)]))) ∧
      (∀ (c : Instr) (f : Frame), frameOfInstr c = some f → (∃ h ∈ s.held, h.port = some .management) →
        exec c s = .next ((s.setPortWaiting (s.portWaiting ++ [.frameEnd c])).setMisos [])) ∧
      (∀ (c : Instr) (f : Frame), frameOfInstr c = some f → (∀ h ∈ s.held, h.port ≠ some .management) →
        (s.frameInProgress.spoiled = false → exec c s = .next ((afterCsRise s s c).setHeld (s.held ++ [.arrival c]))) ∧
          (s.frameInProgress.spoiled = true → ∃ miso,
            exec c s = .next (((s.setMisos [miso]).setFrameInProgress .csHigh).setHeld (s.held ++ [.spoiledFrame])))) ∧
      ∀ (i : StreamNo) (l : Line) (t : TagNo),
        exec (.combineAgeExpiry i) s = .next s ∧ exec (.claimTimeOut i l) s = .next s ∧
          exec (.lingerTimerExpiry i l) s = .next s ∧ exec (.memoryTimeOut t) s = .next s

/-- R162: when REFCLK runs again the held events are taken, the oldest first, with the effect that they have on a running part: the
transaction is answered, the response meets its tag, the frame is executed as it was received, and one that R164 answers FRAME_ERROR leaves
that. A REFCLK cycle or TICK leaves none waiting, and takes them before it counts: it is the oldest event `h`, and then the cycle with the
others held; it gives the answers, and has carried the replies, of them all. R148, R151: only after the execution of a held frame does the
port look at what waited behind it: a frame that begins there is shifted in with the reply of the executed frame going out, and its end,
where that waited too, is held in its turn with the rest still waiting. The model's choices: the oldest of all interfaces comes first, the
first cycle takes them all, and each comes before the grants that it makes due (log entries 7, 21); the edges on the port come with the
cycle and before its events (log entry 23); how a later frame waits is its reading (log entry 24). -/
def Obligations.HeldEventsAreTakenInOrder : Prop :=
  (∀ (s t : State) (c : Instr), Inv s → s.por = false → c = .tick ∨ c = .refclkCycle → exec c s = .next t →
    t.held = [] ∧ t.portWaiting = []) ∧
  ∀ (s : State) (h : HeldEvent) (rest : List HeldEvent), Inv s → s.por = false → nothingDue s → grantDue s = false →
    s.held = h :: rest →
    let running := ((s.setHeld []).setRefclkStopped false).setFrameInProgress .csHigh
    let frameWaits := ∃ x ∈ s.held, x.port = some .management
    ∃ v : State,
      (∀ d, h = .arrival d → exec d running = .next v) ∧
        (h = .spoiledFrame → v = running.setReply { status := .frameError, data := [] }) ∧
        ∀ c : Instr, c = .tick ∨ c = .refclkCycle →
          let edges := if c = .tick then [] else s.nextInput.edges
          let waiting := if frameWaits then s.portWaiting ++ edges.map PortEvent.edge else []
          let frame := if frameWaits then .csHigh else edges.foldl (FrameProgress.edge false s.reply) s.frameInProgress
          let inputs := if c = .tick then s.cycleInputs else { edges := [], stops := s.nextInput.stops } :: s.cycleInputs.tail
          let base := (((((v.setHeld rest).setRefclkStopped true).setFrameInProgress frame).setPortWaiting waiting).setCycleInputs
            inputs).setMisos []
          let u := if h.port = some .management then resumePort waiting base else base
          let given := if h.port = some .deviceBus then v.answers else []
          (∃ w, exec c u = .next w ∧
            exec c s = .next ((w.setAnswers (given ++ w.answers)).setMisos (u.misos ++ w.misos))) ∧
            (h.port = some .management →
              (∀ bits, waiting = .edge .csFall :: bits.map (fun b => PortEvent.edge (.sck b)) →
                u = (base.setFrameInProgress (.receiving bits v.reply)).setPortWaiting []) ∧
                ∀ (before : List PortEdge) (d : Instr) (f : Frame) (more : List PortEvent),
                  waiting = before.map PortEvent.edge ++ .frameEnd d :: more → frameOfInstr d = some f →
                  u = ((base.setPortWaiting more).setHeld (rest ++ [.arrival d])).setMisos
                    [shiftOut (sentByte v.reply) f.bytes.length f.extra.val])

/-! ### Resets -/

/-- R163, R164: the power-on reset brings every piece of the part's state to its power-on value, in one event, whatever it was; a frame in
progress is discarded. That the levels of the input pins and the waiting commands and inputs are kept (log entry 15), that the bus reset
condition is then held released (log entry 2), and that the events held at the interfaces and on the port are dropped (log entries 22, 24),
is the model's reading. -/
def Obligations.PowerOnResetReachesThePowerOnState : Prop :=
  ∀ s : State, ∃ t, exec .powerOnReset s = .next t ∧ t.por = true ∧ t.drstn = s.drstn ∧ t.ready = s.ready ∧
    t.refclkStopped = s.refclkStopped ∧ t.cycleInputs = s.cycleInputs ∧ t.pending = s.pending ∧ t.busReset = false ∧ t.held = [] ∧
    t.opState = .offline ∧ t.pq = [] ∧ t.prt = [] ∧ (∀ u : TagNo, t.tags[u] = .free) ∧
    t.lastGranted = .write ∧
    (∀ w : WindowNo, t.windows[w] =
      { enabled := false, base := 0, limit := 0, writeTreatment := .refuse, readTreatment := .refuse, notify := false }) ∧
    (∀ i : StreamNo, t.streams[i] = { openEntry := none, orderMode := .loose, faultMark := false, hold := false }) ∧
    t.nq = [] ∧ t.noticesLost = 0 ∧ t.el = [] ∧ t.errorsLost = 0 ∧ (∀ c : Fin 19, t.counters[c] = 0) ∧
    t.timers = { combineAge := 8, claimTime := 1000, lingerTime := 50, memTimeout := 2000 } ∧
    t.reply = { status := .noneExecuted, data := [] } ∧ t.frameInProgress.isReceiving = false ∧
    (s.frameInProgress = .csHigh → s.portWaiting = [] → t.frameInProgress = .csHigh) ∧ t.portWaiting = [] ∧ t.tbCount = 0 ∧ evtInt t = false ∧ errInt t = false

/-- R163, R164, R116: the release of PORn takes the level of DRSTn into the bus reset condition, and a frame whose CS is low counts as begun
under the reset. That a pulse shorter than the minimum stops the machine, and that the row changes nothing where PORn is not asserted, is
the model's choice (log entry 14). -/
def Obligations.ReleaseOfPornStartsThePart : Prop :=
  ∀ (s : State) (csLow fullPulse : Bool),
    (s.por = true → exec (.releaseOfPorn csLow true) s = .next
      (((s.setPor false).setBusReset s.drstn).setFrameInProgress
        (if csLow then
          match s.frameInProgress with
          | .csHigh => .underReset s.reply 0
          | .receiving bits sending => .underReset sending bits.length
          | .underReset sending cycles => .underReset sending cycles
        else .csHigh))) ∧
      (s.por = true → exec (.releaseOfPorn csLow false) s = .fault .resetPulseTooShort) ∧
      (s.por = false → exec (.releaseOfPorn csLow fullPulse) s = .next s)

/-- R163, R164: while PORn is asserted no event of the D-bus, the M-link, the timebase or the management port changes anything but the
interface outputs, the pins and the frame in progress, which does not receive: no transaction is answered, no request is sent, and MISO
carries 00 Hex in every byte of a frame begun under PORn. (For a frame that the assertion interrupts, see
TheFrameInProgressIsShiftedInAndLostToPorn.) -/
def Obligations.NothingIsTakenUnderPorn : Prop :=
  ∀ (c : Instr) (s t : State), s.por = true → exec c s = .next t →
    (∀ csLow fullPulse, c ≠ .releaseOfPorn csLow fullPulse) → c ≠ .powerOnReset → c ≠ .readyAssertion →
    c ≠ .readyDeassertion → c ≠ .dBusReset → c ≠ .releaseOfDrstn →
    t = (((((s.setAnswers t.answers).setRequests t.requests).setMisos t.misos).setFrameInProgress t.frameInProgress).setRefclkStopped
        t.refclkStopped).setCycleInputs t.cycleInputs ∧
      (c ≠ .refclkCycle → t.refclkStopped = s.refclkStopped ∧ t.cycleInputs = s.cycleInputs) ∧
      (s.frameInProgress.isReceiving = false → t.frameInProgress.isReceiving = false) ∧
      (∀ i a data, c = .write i a data → t.answers = []) ∧ (∀ i a n, c = .read i a n → t.answers = []) ∧
      (c = .grant → t.requests = []) ∧
      ∀ f, frameOfInstr c = some f →
        t.frameInProgress = .csHigh ∧
          (s.frameInProgress = .csHigh ∨ (∃ sending, s.frameInProgress = .underReset sending 0) →
            ∃ miso, t.misos = [miso] ∧ miso.bytes = List.replicate f.bytes.length 0 ∧ ∀ b ∈ miso.bits, b = false)

/-- R116, R24, R65, R87, R123: the D-bus reset seals every OPEN entry, frees every PRT entry, makes the BUSY read tags orphan with their
timers running, and completes a drain whose PQ is empty; a second assertion without a release is no event. R117: while the bus reset
condition is asserted no transaction is taken: it gets no answer and changes nothing else. That a transaction which waits for REFCLK then
gets no answer either (log entry 22), and that the line alone moves while PORn is asserted (log entry 15), is the model's reading. -/
def Obligations.DBusResetSealsFreesAndOrphans : Prop :=
  ∀ s : State,
    (s.por = false → s.drstn = false → exec .dBusReset s = .next
      ((((((((s.setDrstn true).setBusReset true).setPq (s.pq.map fun e =>
          if e.isOpen then { e with state := .sealed } else e)).setPrt []).setStreams
        (Vector.ofFn fun i => { s.streams[i] with openEntry := none })).setTags (Vector.ofFn fun t =>
        match s.tags[t] with
        | .busy o timer => if o.linkClass = .read then .busy .orphan timer else .busy o timer
        | tag => tag)).setOpState (opStateAfterFree s [])).setHeld (s.held.filter fun h => h.port ≠ some .deviceBus))) ∧
      (s.por = false → s.drstn = true → exec .dBusReset s = .next s) ∧
      (s.por = true → exec .dBusReset s = .next (s.setDrstn true)) ∧
      (s.busReset = true → ∀ (i : StreamNo) (a : Address) (data : List Byte) (n : Nat),
        exec (.write i a data) s = .next (s.setAnswers []) ∧ exec (.read i a n) s = .next (s.setAnswers []))

/-- R100, R133: the window records and the holds over the three resets: their power-on values, unchanged by a D-bus reset, and under
CLEAR the windows unchanged and every hold off. -/
def Obligations.WindowsAndHoldsOverTheResets : Prop :=
  ∀ s : State,
    (∃ t, exec .powerOnReset s = .next t ∧
      (∀ w : WindowNo, t.windows[w] =
      { enabled := false, base := 0, limit := 0, writeTreatment := .refuse, readTreatment := .refuse, notify := false }) ∧
      ∀ i : StreamNo, t.streams[i].hold = false) ∧
      (∃ t, exec .dBusReset s = .next t ∧ t.windows = s.windows ∧ ∀ i : StreamNo, t.streams[i].hold = s.streams[i].hold) ∧
      ∀ (hi lo : Byte) (data : List Byte), portReady s → s.opState = .offline → data.length ≤ 12 →
        ∃ t, exec (.clear (framed hi lo data)) s = .next t ∧ t.windows = s.windows ∧ ∀ i : StreamNo, t.streams[i].hold = false

/-! ### The management port -/

/-- R149, R164: a frame whose form fails executes nothing, whatever its row: MISO has carried the reply held, and the reply buffer takes
FRAME_ERROR. A frame begun while PORn was asserted, or interrupted by it, executes nothing, whatever it carries: the reply buffer takes
FRAME_ERROR, and the next frame is taken whole. -/
def Obligations.BrokenFramesExecuteNothing : Prop :=
  ∀ (c : Instr) (f : Frame) (s : State), frameOfInstr c = some f →
    (portReady s →
      (f.extra ≠ 0 ∨ f.bytes.length < 4 ∨ (∃ b hi lo len data, f.bytes = b :: hi :: lo :: len :: data ∧
        (12 < len.toNat ∨ data.length ≠ len.toNat ∨ commandOfCode b = none ∨
          ((commandOfCode b = some .hold ∨ commandOfCode b = some .unhold ∨ commandOfCode b = some .clearFault) ∧ len ≠ 1)))) →
      exec c s = .next (afterFrame s s c .frameError [])) ∧
      (s.por = false → s.frameInProgress.spoiled = true → s.refclkStopped = false →
        ∃ t, exec c s = .next t ∧
          t = ((s.setMisos t.misos).setFrameInProgress .csHigh).setReply { status := .frameError, data := [] })

/-- R151: during a frame MISO carries the reply held when it began, which is the one held at the fall of CS where the fall was seen: the
status, the length, the data, then 00 Hex; and the bits of the next byte, most significant first, during the SCK cycles beyond the last
whole byte (the model's reading, log entry 11). -/
def Obligations.MisoCarriesTheHeldReply : Prop :=
  ∀ (c : Instr) (f : Frame) (s : State), frameOfInstr c = some f → portReady s →
    let began := match s.frameInProgress with
      | .receiving _ sending => sending
      | _ => s.reply
    let sent := fun k : Nat =>
      if k = 0 then statusCode began.status
      else if k = 1 then BitVec.ofNat 8 began.data.length
      else if k - 2 < began.data.length then began.data.getD (k - 2) 0
      else 0
    ∃ t miso, exec c s = .next t ∧ t.misos = [miso] ∧ miso.bytes.length = f.bytes.length ∧ miso.bits.length = f.extra.val ∧
      (∀ k, k < f.bytes.length → miso.bytes[k]? = some (sent k)) ∧
      ∀ k, k < f.extra.val → miso.bits[k]? = some ((sent f.bytes.length).getMsbD k)

/-- R148, R151, R163, R164: at the fall of CS the frame in progress starts empty, with the reply then held as the one that MISO shifts out,
and each SCK cycle adds its bit; while CS is high SCK is not looked at. While an earlier frame waits for its execution none of its edges is
looked at: a frame that begins then starts with the reply of the frame executed. The assertion of PORn discards the frame; MISO carries the reply held before the assertion and 0 from it on, bit
for bit, and 0 throughout in a frame begun under PORn. (That the edges come with the REFCLK cycles is the model's choice, log entry 23. That
a frame waits behind one that REFCLK holds, and that nothing of the reply has gone out in it when PORn comes, is the model's reading, log
entry 24; so is what MISO carries in a broken last byte, log entry 11.) -/
def Obligations.TheFrameInProgressIsShiftedInAndLostToPorn : Prop :=
  (∀ (s : State) (x : CycleInput) (rest : List CycleInput) (bits : List Bool), s.cycleInputs = x :: rest →
    ∃ t, exec .refclkCycle s = .next t ∧ t.cycleInputs = rest ∧ t.refclkStopped = x.stops ∧
      (Inv s → (∃ h ∈ s.held, h.port = some .management) → s.portWaiting = [] → x.edges = .csFall :: bits.map PortEdge.sck →
        t.frameInProgress = .receiving bits t.reply) ∧
      ((∀ h ∈ s.held, h.port ≠ some .management) → t.portWaiting = s.portWaiting ∧
      (s.frameInProgress = .csHigh → x.edges = .csFall :: bits.map PortEdge.sck →
        t.frameInProgress = if s.por then .underReset s.reply 0 else .receiving bits s.reply) ∧
      (∀ old sending, s.frameInProgress = .receiving old sending → x.edges = bits.map PortEdge.sck →
        t.frameInProgress = .receiving (old ++ bits) sending) ∧
      (s.frameInProgress = .csHigh → x.edges = bits.map PortEdge.sck → t.frameInProgress = .csHigh))) ∧
    (∀ s : State, ∃ t, exec .powerOnReset s = .next t ∧
      (s.portWaiting = [] → ∀ old sending, s.frameInProgress = .receiving old sending →
        t.frameInProgress = .underReset sending old.length) ∧
      (∀ before, ∀ bits : List Bool,
        s.portWaiting = before ++ .edge .csFall :: bits.map (fun b => PortEvent.edge (.sck b)) →
        t.frameInProgress = .underReset s.reply 0) ∧
      ∀ before d, s.portWaiting = before ++ [.frameEnd d] → s.frameInProgress = .csHigh → t.frameInProgress = .csHigh) ∧
    ∀ (c : Instr) (f : Frame) (s : State) (sending : Reply) (cycles : Nat), frameOfInstr c = some f →
      s.frameInProgress = .underReset sending cycles → (∀ h ∈ s.held, h.port ≠ some .management) →
      let sent := fun k : Nat =>
        if k = 0 then statusCode sending.status
        else if k = 1 then BitVec.ofNat 8 sending.data.length
        else if k - 2 < sending.data.length then sending.data.getD (k - 2) 0
        else 0
      ∃ t miso, exec c s = .next t ∧ t.frameInProgress = .csHigh ∧ t.misos = [miso] ∧ miso.bytes.length = f.bytes.length ∧
        miso.bits.length = f.extra.val ∧
        (∀ k j, k < f.bytes.length → j < 8 →
          (miso.bytes[k]?.map fun b => b.getMsbD j) = some (decide (8 * k + j < cycles) && (sent k).getMsbD j)) ∧
        ∀ j, j < f.extra.val →
          miso.bits[j]? = some (decide (8 * f.bytes.length + j < cycles) && (sent f.bytes.length).getMsbD j)

/-- R151, R152, R153, R150: a well-framed NOP executes nothing and leaves NONE; READ ITEM returns the item's value and changes nothing else;
a number that names no item gives BAD_ITEM, and so does a WRITE ITEM to an unknown or read-only item. -/
def Obligations.ItemCommandsAnswerByTheItemMap : Prop :=
  ∀ (s : State) (hi lo : Byte) (data : List Byte), portReady s → data.length ≤ 12 →
    (∀ f : Frame, f = commandFrame .nop (framed hi lo data) → exec (.nop f) s = .next (afterFrame s s (.nop f) .noneExecuted [])) ∧
      (∀ it, itemOfNumber (beNat [hi, lo]) = some it →
        exec (.readItem (framed hi lo data)) s =
          .next (afterFrame s s (.readItem (framed hi lo data)) .ok (itemValue s it))) ∧
      (itemOfNumber (beNat [hi, lo]) = none →
        exec (.readItem (framed hi lo data)) s = .next (afterFrame s s (.readItem (framed hi lo data)) .badItem [])) ∧
      (writeItemWellFormed (framed hi lo data) = true →
        exec (.writeItem (framed hi lo data)) s = .next (afterFrame s s (.writeItem (framed hi lo data)) .badItem []))

/-- R152, R154, R155, R156, R157, R69, table 9-4: what READ ITEM of each item number reads: the ID; the operating state; the lengths of the
queues and tables; the numbers of FREE, BUSY and LAPSED tags, in that order, which sum to 16; the lost-counts; the timer items; the window
records, which read as the bytes that write them; the stream records; and the nineteen counters, in the order of table 8-2. Multi-byte
numbers come most significant byte first. Any other number gives BAD_ITEM. -/
def Obligations.ItemsShowTheStateTheyName : Prop :=
  ∀ (s : State) (hi lo : Byte) (data : List Byte), portReady s → data.length ≤ 12 →
    let c : Instr := .readItem (framed hi lo data)
    let reads := fun (n : Nat) (value : List Byte) =>
      hi.toNat * 256 + lo.toNat = n → exec c s = .next (afterFrame s s c .ok value)
    let byte := fun n : Nat => (BitVec.ofNat 8 n : Byte)
    let two := fun n : Nat => [byte (n / 2 ^ 8), byte n]
    let four := fun n : Nat => [byte (n / 2 ^ 24), byte (n / 2 ^ 16), byte (n / 2 ^ 8), byte n]
    let tagsThat := fun p : Tag → Bool => ((List.finRange 16).filter fun t => p s.tags[t]).length
    reads 0x0000 [0x24, 0x40, 0x01] ∧
      reads 0x0001 [match s.opState with
        | .offline => 0
        | .online => 1
        | .draining => 2] ∧
      reads 0x0002 [byte s.pq.length] ∧ reads 0x0003 [byte s.prt.length] ∧
      reads 0x0004 [byte (tagsThat Tag.isFree), byte (tagsThat Tag.isBusy), byte (tagsThat Tag.isLapsed)] ∧
      tagsThat Tag.isFree + tagsThat Tag.isBusy + tagsThat Tag.isLapsed = 16 ∧
      reads 0x0005 [byte s.nq.length] ∧ reads 0x0006 [byte s.noticesLost] ∧ reads 0x0007 [byte s.el.length] ∧
      reads 0x0008 [byte s.errorsLost] ∧
      reads 0x0010 (two s.timers.combineAge) ∧ reads 0x0011 (two s.timers.claimTime) ∧ reads 0x0012 (two s.timers.lingerTime) ∧
      reads 0x0013 (two s.timers.memTimeout) ∧
      (∀ w : WindowNo, reads (0x0020 + w.val)
        (([if s.windows[w].enabled then 1 else 0, if s.windows[w].notify then 1 else 0] : List Byte) ++ four s.windows[w].base.toNat ++
          four s.windows[w].limit.toNat ++
          ([match s.windows[w].writeTreatment with
            | .post => 0
            | .merge => 1
            | .release => 2
            | .refuse => 3,
           match s.windows[w].readTreatment with
            | .single => 0
            | .line => 1
            | .refuse => 2] : List Byte))) ∧
      (∀ w : WindowNo, s.windows[w].base.toNat ≤ s.windows[w].limit.toNat →
        windowOfBytes (itemValue s (.window w)) = some s.windows[w]) ∧
      (∀ i : StreamNo, reads (0x0030 + i.val)
        [if s.streams[i].orderMode = .strict then 1 else 0, if s.streams[i].hold then 1 else 0,
         if s.streams[i].faultMark then 1 else 0, if ∃ e ∈ s.pq, e.stream = i then 0 else 1]) ∧
      (∀ (k : Nat) (counter : Counter),
        ([.writesAccepted, .writesMerged, .entriesRetired, .entriesFailed, .flagsReleased, .flagsVoided, .faultMarks, .readsDelivered,
          .readsUnclaimed, .lingerHits, .memTimeouts, .aborts, .retriesNotOnline, .retriesHeld, .retriesQueueFull, .retriesParked,
          .retriesNotReady, .retriesLineBusy, .retriesTableFull] : List Counter)[k]? = some counter →
        reads (0x0040 + k) (four (s.counter counter))) ∧
      ∀ n, hi.toNat * 256 + lo.toNat = n → (0x0008 < n ∧ n < 0x0010) ∨ (0x0013 < n ∧ n < 0x0020) ∨ (0x0037 < n ∧ n < 0x0040) ∨ 0x0052 < n →
        exec c s = .next (afterFrame s s c .badItem [])

/-- R96, R156: a WRITE ITEM to a window: a record of 12 bytes in range replaces the whole record; any other 12 bytes give BAD_VALUE, and
any other length FRAME_ERROR, and change nothing. -/
def Obligations.WindowWriteReplacesTheWholeRecord : Prop :=
  ∀ (s : State) (w : WindowNo) (data : List Byte), portReady s → data.length ≤ 12 →
    let c : Instr := .writeItemWindow w (framedData data)
    (∀ r : Window, r.base.toNat ≤ r.limit.toNat → data = windowBytes r →
      exec c s = .next (afterFrame s (s.setWindows (s.windows.set w r)) c .ok [])) ∧
      (data.length = 12 → (∀ r : Window, r.base.toNat ≤ r.limit.toNat → data ≠ windowBytes r) →
        exec c s = .next (afterFrame s s c .badValue [])) ∧
      (data.length ≠ 12 → exec c s = .next (afterFrame s s c .frameError []))

/-- R155: a WRITE ITEM to a timer item: a 2-byte value in the item's range is taken, one outside it gives BAD_VALUE, and any other length
FRAME_ERROR; running timers are not changed. -/
def Obligations.TimerWriteTakesValuesInRange : Prop :=
  ∀ (s : State) (hi lo : Byte) (data : List Byte) (k : TimerItem), portReady s → data.length ≤ 12 →
    let c : Instr := .writeItemTimer k (framedData [hi, lo])
    let v := hi.toNat * 256 + lo.toNat
    let inRange := match k with
      | .combineAge => v ≤ 255
      | .claimTime => 1 ≤ v ∧ v ≤ 4095
      | .lingerTime => 1 ≤ v ∧ v ≤ 1023
      | .memTimeout => 10 ≤ v ∧ v ≤ 10000
    (inRange →
      exec c s = .next (afterFrame s (s.setTimers (match k with
        | .combineAge => { s.timers with combineAge := v }
        | .claimTime => { s.timers with claimTime := v }
        | .lingerTime => { s.timers with lingerTime := v }
        | .memTimeout => { s.timers with memTimeout := v })) c .ok [])) ∧
      (¬inRange → exec c s = .next (afterFrame s s c .badValue [])) ∧
      (data.length ≠ 2 → exec (.writeItemTimer k (framedData data)) s =
        .next (afterFrame s s (.writeItemTimer k (framedData data)) .frameError []))

/-- R41, R157: a WRITE ITEM to a stream item: a byte that names no mode gives BAD_VALUE; otherwise the mode is taken when the stream is
held and has no PQ and no PRT entry, and is REFUSED when not; any length but 1 gives FRAME_ERROR. -/
def Obligations.OrderModeChangesOnlyWhenHeldAndEmpty : Prop :=
  ∀ (s : State) (i : StreamNo) (b : Byte) (data : List Byte), portReady s → data.length ≤ 12 →
    let c : Instr := .writeItemOrderMode i (framedData [b])
    let free := s.streams[i].hold = true ∧ (∀ e ∈ s.pq, e.stream ≠ i) ∧ ∀ p ∈ s.prt, p.stream ≠ i
    (b ≠ 0 → b ≠ 1 → exec c s = .next (afterFrame s s c .badValue [])) ∧
      (b = 0 ∨ b = 1 → free →
        exec c s = .next (afterFrame s
          (s.setStreams (s.streams.set i { s.streams[i] with orderMode := if b = 0 then .loose else .strict })) c .ok [])) ∧
      (b = 0 ∨ b = 1 → ¬free → exec c s = .next (afterFrame s s c .refused [])) ∧
      (data.length ≠ 1 → exec (.writeItemOrderMode i (framedData data)) s =
        .next (afterFrame s s (.writeItemOrderMode i (framedData data)) .frameError []))

/-- R121, R122, R17, R64, R123: START moves OFFLINE to ONLINE and changes no other state of the part; in ONLINE and in DRAINING it is
REFUSED and changes nothing. STOP in ONLINE seals every OPEN entry, frees the LINGERING entries, and leaves the part DRAINING, or OFFLINE
when the PQ and the PRT are then both empty; in the other states it is REFUSED and changes nothing. -/
def Obligations.StartAndStopMoveTheOperatingState : Prop :=
  ∀ (s : State) (hi lo : Byte) (data : List Byte), portReady s → data.length ≤ 12 →
    let c : Instr := .start (framed hi lo data)
    let d : Instr := .stop (framed hi lo data)
    let kept := s.prt.filter fun p => !p.isLingering
    (s.opState = .offline → exec c s = .next (afterFrame s (s.setOpState .online) c .ok [])) ∧
      (s.opState ≠ .offline → exec c s = .next (afterFrame s s c .refused [])) ∧
      (s.opState = .online → exec d s = .next (afterFrame s
        ((((s.setPq (s.pq.map fun e => if e.isOpen then { e with state := .sealed } else e)).setPrt kept).setStreams
          (Vector.ofFn fun i => { s.streams[i] with openEntry := none })).setOpState
          (if s.pq = [] ∧ kept = [] then .offline else .draining)) d .ok [])) ∧
      (s.opState ≠ .online → exec d s = .next (afterFrame s s d .refused []))

/-- R126: CLEAR in OFFLINE empties the NQ and the EL, zeroes the lost-counts and the counters, and clears the fault marks and holds; in the
other states it is REFUSED and changes nothing. -/
def Obligations.ClearEmptiesTheLogsInOffline : Prop :=
  ∀ (s : State) (hi lo : Byte) (data : List Byte), portReady s → data.length ≤ 12 →
    let c : Instr := .clear (framed hi lo data)
    (s.opState = .offline → exec c s = .next (afterFrame s
        ((((((s.setNq []).setNoticesLost 0).setEl []).setErrorsLost 0).setCounters (Vector.replicate 19 0)).setStreams
          (Vector.ofFn fun i => { s.streams[i] with faultMark := false, hold := false })) c .ok [])) ∧
      (s.opState ≠ .offline → exec c s = .next (afterFrame s s c .refused []))

/-- R128, R129, R39, R17: the commands that carry a stream set. HOLD puts the named streams on hold and seals their OPEN entries; UNHOLD takes
the hold off them, and CLEAR FAULT clears their fault marks. All three are taken in every state; the other streams keep their records and
entries, void marks stay in place, and nothing else changes. -/
def Obligations.StreamSetCommandsActOnTheNamedStreams : Prop :=
  ∀ (s : State) (hi lo set : Byte), portReady s →
    let h : Instr := .hold (framed hi lo [set])
    let u : Instr := .unhold (framed hi lo [set])
    let f : Instr := .clearFault (framed hi lo [set])
    (Inv s → exec h s = .next (afterFrame s
      ((s.setPq (s.pq.map fun e => if set.getLsbD e.stream.val && e.isOpen then { e with state := .sealed } else e)).setStreams
        (Vector.ofFn fun i => if set.getLsbD i.val then { s.streams[i] with openEntry := none, hold := true } else s.streams[i]))
      h .ok [])) ∧
      exec u s = .next (afterFrame s
        (s.setStreams (Vector.ofFn fun i => if set.getLsbD i.val then { s.streams[i] with hold := false } else s.streams[i]))
        u .ok []) ∧
      exec f s = .next (afterFrame s
        (s.setStreams (Vector.ofFn fun i => if set.getLsbD i.val then { s.streams[i] with faultMark := false } else s.streams[i]))
        f .ok [])

/-- R136, R140, R141, R158, table 9-8: the TAKE commands: the oldest notice or record is removed and returned, or EMPTY is answered; the
lost-count form returns ERRORS_LOST and zeroes it; a form selector that names no form gives BAD_ITEM. A notice is its window, its stream,
the five bytes of its line and its outcome; an error record is its kind, its stream, the five bytes of its line, its tag, its window, and
00 Hex, with 0FF Hex in each byte of a field that the kind does not carry. -/
def Obligations.TakesReturnTheOldestReport : Prop :=
  ∀ (s : State) (hi lo : Byte) (data : List Byte), portReady s → data.length ≤ 12 →
    let n : Instr := .takeNotice (framed hi lo data)
    let e : Instr := .takeErrorRecordForm (framed 0 0 data)
    let l : Instr := .takeErrorLostCountForm (framedData data)
    let x : Instr := .takeErrorRecordForm (framed hi lo data)
    let byte := fun v : Nat => (BitVec.ofNat 8 v : Byte)
    let five := fun a : Line => [byte (a.toNat / 2 ^ 32), byte (a.toNat / 2 ^ 24), byte (a.toNat / 2 ^ 16), byte (a.toNat / 2 ^ 8), byte a.toNat]
    let none5 : List Byte := [0xFF, 0xFF, 0xFF, 0xFF, 0xFF]
    (∀ v rest, s.nq = v :: rest → exec n s = .next (afterFrame s (s.setNq rest) n .ok
        ([byte v.window, byte v.stream] ++ five v.line ++ ([match v.outcome with
          | .released => 0
          | .failed => 1
          | .voided => 2] : List Byte)))) ∧
      (s.nq = [] → exec n s = .next (afterFrame s s n .empty [])) ∧
      (∀ r rest, s.el = r :: rest → exec e s = .next (afterFrame s (s.setEl rest) e .ok (match r with
        | .writeFault i a t => [0x01, byte i] ++ five a ++ [byte t, 0xFF, 0x00]
        | .writeTimeout i a t => [0x02, byte i] ++ five a ++ [byte t, 0xFF, 0x00]
        | .readFault i a t => [0x03, byte i] ++ five a ++ [byte t, 0xFF, 0x00]
        | .readTimeout i a t => [0x04, byte i] ++ five a ++ [byte t, 0xFF, 0x00]
        | .lateResponse t => [0x05, 0xFF] ++ none5 ++ [byte t, 0xFF, 0x00]
        | .unexpectedResponse t => [0x06, 0xFF] ++ none5 ++ [byte t, 0xFF, 0x00]
        | .unmapped i a => [0x07, byte i] ++ five a ++ [0xFF, 0xFF, 0x00]
        | .refused i a w => [0x08, byte i] ++ five a ++ [0xFF, byte w, 0x00]
        | .malformed i a => [0x09, byte i] ++ five a ++ [0xFF, 0xFF, 0x00]
        | .readUnclaimed i a => [0x0A, byte i] ++ five a ++ [0xFF, 0xFF, 0x00]
        | .tagsExhausted => [0x0B, 0xFF] ++ none5 ++ [0xFF, 0xFF, 0x00]))) ∧
      (s.el = [] → exec e s = .next (afterFrame s s e .empty [])) ∧
      exec l s = .next (afterFrame s (s.setErrorsLost 0) l .ok [BitVec.ofNat 8 s.errorsLost]) ∧
      (hi ≠ 0 ∨ (lo ≠ 0 ∧ lo ≠ 1) → exec x s = .next (afterFrame s s x .badItem []))

/-- R84: FREE LAPSED makes every LAPSED tag FREE, in every operating state, and changes nothing else of the part. -/
def Obligations.FreeLapsedFreesEveryLapsedTag : Prop :=
  ∀ (s : State) (hi lo : Byte) (data : List Byte), portReady s → data.length ≤ 12 →
    let c : Instr := .freeLapsed (framed hi lo data)
    ∃ tags : Vector Tag 16, exec c s = .next (afterFrame s (s.setTags tags) c .ok []) ∧
      (∀ t : TagNo, tags[t] = if s.tags[t] = .lapsed then .free else s.tags[t]) ∧ tagCount tags Tag.isLapsed = 0

/-! ### Encodings -/

/-- Tables 9-3, 9-4: every frame on the wire belongs to exactly one row, whose frame it is; a well-formed management command is the row of
its own frame; and a row's frame begins with the command code of table 9-3 and the item number of table 9-4 that the row fixes. (That a
frame with no command byte, or with one that names no command, belongs to the NOP row is the model's choice, log entry 13.) -/
def Obligations.FramesAndRowsAgree : Prop :=
  (∀ f : Frame, (instrOfFrame f).WellFormed = true ∧ frameOfInstr (instrOfFrame f) = some f) ∧
    (∀ (c : Instr) (f : Frame), c.WellFormed = true → frameOfInstr c = some f → instrOfFrame f = c) ∧
    ∀ (c : Instr) (f : Frame), frameOfInstr c = some f → rowBytes c <+: f.bytes

/-! ### Rules over all commands -/

/-- R119, R123: the operating state moves only from OFFLINE to ONLINE at START, from ONLINE to DRAINING or OFFLINE at STOP, from DRAINING to
OFFLINE with the PQ and the PRT empty, and to OFFLINE at power-on reset. A REFCLK cycle that takes commands which waited (R162) can make
several such moves, and makes none but the last but one without a START or a STOP among them. -/
def Obligations.OperatingStateMovesOnlyAsStated : Prop :=
  ∀ (c : Instr) (s t : State), exec c s = .next t → t.opState ≠ s.opState →
    (takesNoHeld c s →
      (s.opState = .offline ∧ t.opState = .online ∧ ∃ tail, c = .start tail) ∨
        (s.opState = .online ∧ (∃ tail, c = .stop tail) ∧
          (t.opState = .draining ∨ (t.opState = .offline ∧ t.pq = [] ∧ t.prt = []))) ∨
        (s.opState = .draining ∧ t.opState = .offline ∧ t.pq = [] ∧ t.prt = []) ∨
        (c = .powerOnReset ∧ t.opState = .offline)) ∧
      ((∃ tail, .start tail ∈ commandsTaken c s) ∨ (∃ tail, .stop tail ∈ commandsTaken c s) ∨
        (s.opState = .draining ∧ t.opState = .offline ∧ t.pq = [] ∧ t.prt = []) ∨ (c = .powerOnReset ∧ t.opState = .offline))

/-- R88, R155, R25: a window record changes only at a WRITE ITEM to it, a timer item only at a WRITE ITEM to it, and an order mode only at a
WRITE ITEM to the stream's item, or at power-on reset; a WRITE ITEM that waited for REFCLK acts at the cycle that takes it up (R162). -/
def Obligations.SetUpChangesOnlyAtItsOwnWrites : Prop :=
  ∀ (c : Instr) (s t : State), (∀ d ∈ commandsTaken c s, d.WellFormed = true) → exec c s = .next t → c ≠ .powerOnReset →
    (∀ w : WindowNo, t.windows[w] ≠ s.windows[w] → ∃ tail, .writeItemWindow w tail ∈ commandsTaken c s) ∧
      (∀ k : TimerItem, timerValue t.timers k ≠ timerValue s.timers k → ∃ tail, .writeItemTimer k tail ∈ commandsTaken c s) ∧
      ∀ i : StreamNo, t.streams[i].orderMode ≠ s.streams[i].orderMode → ∃ tail, .writeItemOrderMode i tail ∈ commandsTaken c s

/-- R3, R19, R21, R24, R32 to R34, R98: posted data are kept. Over any command but the power-on reset, each PQ entry either is still there,
with its stream, line, window and notify, and with its bytes unless it was OPEN; or it was ISSUED and its response or time-out came; or it
was a SEALED RELEASE entry that left voided: it was marked, or an ISSUED entry of its stream left failed in the same step, and FLAGS_VOIDED
went up. A REFCLK cycle that takes events which waited (R162) can also send the entry's request, which was due (log entry 7), and take the
response that waited; and the failure that voided may be that of a response that waited. (A counter may have saturated, or a CLEAR that
waited may have followed in the step.) -/
def Obligations.PostedWritesAreKept : Prop :=
  ∀ (c : Instr) (s t : State), Inv s → exec c s = .next t → c ≠ .powerOnReset →
    let counted := fun k : Counter =>
      s.counter k < t.counter k ∨ 0xFFFFFFFF ≤ s.counter k ∨ ∃ tail, .clear tail ∈ commandsTaken c s
    ∀ e ∈ s.pq,
      let stays := ∃ x ∈ t.pq, x.id = e.id ∧ x.stream = e.stream ∧ x.line = e.line ∧ x.isMergeable = e.isMergeable ∧
        (e.isOpen = false → x.isOpen = false ∧ x.bytes = e.bytes) ∧
        ∀ w n v, e.kind = .release w n v → ∃ v', x.kind = .release w n v' ∧ (v = true → v' = true)
      let timedOut := ∃ tag, e.state = .issued tag ∧
        (((c = .memoryTimeOut tag ∨ c = .tick ∨ c = .refclkCycle) ∧ s.tags[tag].due = true) ∨
          (c = .refclkCycle ∧ s.tbCount = 49 ∧ s.nextInput.stops = true ∧
            ∃ o timer, s.tags[tag] = .busy o timer ∧ timer.limit ≤ timer.count + 1))
      let voided := e.isSealed = true ∧ e.isRelease = true ∧ (∀ x ∈ t.pq, x.id ≠ e.id) ∧ counted .flagsVoided
      let failed := ∃ x ∈ s.pq, x.stream = e.stream ∧ x.isIssued = true ∧ (∀ y ∈ t.pq, y.id ≠ x.id) ∧ counted .entriesFailed
      (takesNoHeld c s →
        stays ∨ timedOut ∨ (∃ tag st, e.state = .issued tag ∧ c = .writeResponse tag st) ∨
          (voided ∧ (e.isVoidMarked = true ∨ failed))) ∧
        (stays ∨ timedOut ∨
          (∃ tag st, .writeResponse tag st ∈ commandsTaken c s ∧ (e.state = .issued tag ∨ sentInCycle c t tag e)) ∨
          (voided ∧ (e.isVoidMarked = true ∨ failed ∨ ∃ tag, .writeResponse tag .fault ∈ commandsTaken c s)))

/-- R26, R31: a fault mark becomes set only as an entry of its stream that was ISSUED leaves the PQ failed, and is cleared only by CLEAR
FAULT, CLEAR and power-on reset. A REFCLK cycle that takes events which waited (R162) can also take the response that fails an entry whose
request, due, it sent (log entry 7), and the commands that clear. -/
def Obligations.FaultMarksMoveOnlyAsStated : Prop :=
  ∀ (c : Instr) (s t : State) (i : StreamNo), Inv s → exec c s = .next t →
    let failed := ∃ e ∈ s.pq, e.stream = i ∧ e.isIssued = true ∧ ∀ x ∈ t.pq, x.id ≠ e.id
    let counted := s.counter .faultMarks < t.counter .faultMarks ∨ 0xFFFFFFFF ≤ s.counter .faultMarks
    (s.streams[i].faultMark = false → t.streams[i].faultMark = true →
      (takesNoHeld c s → failed ∧ counted) ∧
        (failed ∨ ∃ tag, .writeResponse tag .fault ∈ commandsTaken c s) ∧
        (counted ∨ ∃ tail, .clear tail ∈ commandsTaken c s)) ∧
      (s.streams[i].faultMark = true → t.streams[i].faultMark = false →
        c = .powerOnReset ∨ (∃ tail, .clear tail ∈ commandsTaken c s) ∨ ∃ tail, .clearFault tail ∈ commandsTaken c s)

/-! ### Invariants -/

/-- Every invariant of the model holds at reset. -/
def Obligations.ResetMeetsTheInvariants : Prop :=
  Inv State.reset ∧ Bounded State.reset ∧ CountersAgree State.reset ∧ EntriesAccounted State.reset

/-- Every step keeps the invariant of the tables, the tags and the stream records (R1, R5, R16, R20, R27 to R30, R34, R44, R48, R69, R116,
R117, R119, R123, R128, R148, R155, R162, R163). -/
def Obligations.EveryStepKeepsTheTables : Prop :=
  ∀ s t : State, Inv s → step s = .next t → Inv t

/-- Every step keeps every table, queue and count within its limit (R1, R44, R134, R135, R138, R139, R144). -/
def Obligations.EveryStepKeepsTheBounds : Prop :=
  ∀ s t : State, Bounded s → step s = .next t → Bounded t

/-- Every step keeps the account of R145: until a counter concerned saturates, the entries appended are those that have left retired, failed
or voided and those still in the PQ; and the relations that hold whatever has saturated. -/
def Obligations.EveryStepKeepsTheAccount : Prop :=
  ∀ s t : State, Inv s → Bounded s → EntriesAccounted s ∧ CountersAgree s → step s = .next t →
    EntriesAccounted t ∧ CountersAgree t
end

