-- ==== Sys2Proof/Laws/Ops.lean ====
section
/-! SUPPORT. For each shared operation, once, everything that it can do: which fields it can change and what it leaves in them. -/

namespace Sys2Proof.Machine

/-! ### Counts and counters -/

theorem saturatingSucc_le {m n : Nat} (h : n ≤ m) : saturatingSucc m n ≤ m := by
  unfold saturatingSucc
  split <;> omega

theorem le_saturatingSucc (m n : Nat) : n ≤ saturatingSucc m n := by
  unfold saturatingSucc
  split <;> omega

theorem Counter.index_inj {c d : Counter} : c.index = d.index ↔ c = d := by
  cases c <;> cases d <;> decide

@[simp] theorem State.counter_setCounters (s : State) (v : Vector Nat 19) (c : Counter) :
    (s.setCounters v).counter c = v[c.index] := rfl

/-- R144: every counter after `bump`, by its place in table 8-2. -/
theorem bump_counters_get (c : Counter) (s : State) (k : Fin 19) :
    (bump c s).counters[k] = if k = c.index then saturatingSucc Config.counterMax s.counters[k] else s.counters[k] := by
  simp only [bump, State.setCounters_counters, State.counter, Fin.getElem_fin, Vector.getElem_set, Fin.ext_iff]
  by_cases h : c.index.val = k.val
  · simp [h]
  · simp [h, Ne.symm h]

/-! ### Reports -/

theorem offerError_cases (r : ErrorRecord) (s : State) :
    (s.el.length < Config.elCapacity ∧ offerError r s = s.setEl (s.el ++ [r])) ∨
      (Config.elCapacity ≤ s.el.length ∧ offerError r s = s.setErrorsLost (saturatingSucc Config.lostMax s.errorsLost)) := by
  unfold offerError
  split
  · exact .inl ⟨‹_›, rfl⟩
  · exact .inr ⟨by omega, rfl⟩

theorem offerNotice_cases (n : Notice) (s : State) :
    (s.nq.length < Config.nqCapacity ∧ offerNotice n s = s.setNq (s.nq ++ [n])) ∨
      (Config.nqCapacity ≤ s.nq.length ∧
        offerNotice n s = s.setNoticesLost (saturatingSucc Config.lostMax s.noticesLost)) := by
  unfold offerNotice
  split
  · exact .inl ⟨‹_›, rfl⟩
  · exact .inr ⟨by omega, rfl⟩

/-- `offerError` changes the EL and ERRORS_LOST alone. -/
theorem offerError_frame (r : ErrorRecord) (s : State) :
    offerError r s = (s.setEl (offerError r s).el).setErrorsLost (offerError r s).errorsLost := by
  rcases offerError_cases r s with ⟨-, h⟩ | ⟨-, h⟩ <;> rw [h] <;> rfl

/-- `offerNotice` changes the NQ and NOTICES_LOST alone. -/
theorem offerNotice_frame (n : Notice) (s : State) :
    offerNotice n s = (s.setNq (offerNotice n s).nq).setNoticesLost (offerNotice n s).noticesLost := by
  rcases offerNotice_cases n s with ⟨-, h⟩ | ⟨-, h⟩ <;> rw [h] <;> rfl

/-- R37: an entry that leaves offers one notice, or none. -/
theorem noticeOfLeaving_cases (e : PqEntry) (o : ReleaseOutcome) (s : State) :
    noticeOfLeaving e o s = s ∨
      ∃ w v, e.kind = .release w true v ∧
        noticeOfLeaving e o s = offerNotice { window := w, stream := e.stream, line := e.line, outcome := o } s := by
  obtain ⟨id, i, l, b, kind, st⟩ := e
  rcases kind with m | ⟨w, n, v⟩
  · exact .inl rfl
  · cases n
    · exact .inl rfl
    · exact .inr ⟨w, v, rfl, rfl⟩

/-- `noticeOfLeaving` changes the NQ and NOTICES_LOST alone. -/
theorem noticeOfLeaving_frame (e : PqEntry) (o : ReleaseOutcome) (s : State) :
    noticeOfLeaving e o s = (s.setNq (noticeOfLeaving e o s).nq).setNoticesLost (noticeOfLeaving e o s).noticesLost := by
  rcases noticeOfLeaving_cases e o s with h | ⟨w, v, -, h⟩
  · rw [h]; rfl
  · rw [h]; exact offerNotice_frame _ _

/-! ### Sealing -/

@[simp] theorem PqEntry.toSealed_id (e : PqEntry) : e.toSealed.id = e.id := by
  unfold PqEntry.toSealed; split <;> rfl

@[simp] theorem PqEntry.toSealed_stream (e : PqEntry) : e.toSealed.stream = e.stream := by
  unfold PqEntry.toSealed; split <;> rfl

@[simp] theorem PqEntry.toSealed_line (e : PqEntry) : e.toSealed.line = e.line := by
  unfold PqEntry.toSealed; split <;> rfl

@[simp] theorem PqEntry.toSealed_bytes (e : PqEntry) : e.toSealed.bytes = e.bytes := by
  unfold PqEntry.toSealed; split <;> rfl

@[simp] theorem PqEntry.toSealed_kind (e : PqEntry) : e.toSealed.kind = e.kind := by
  unfold PqEntry.toSealed; split <;> rfl

@[simp] theorem PqEntry.toSealed_isOpen (e : PqEntry) : e.toSealed.isOpen = false := by
  obtain ⟨id, i, l, b, kind, st⟩ := e
  cases st <;> rfl

/-- R14: sealing changes an OPEN entry's state alone, and no other entry. -/
theorem PqEntry.toSealed_eq (e : PqEntry) : e.toSealed = if e.isOpen then { e with state := .sealed } else e := by
  obtain ⟨id, i, l, b, kind, st⟩ := e
  cases st <;> rfl

/-- R14: the queue after a seal. -/
theorem sealWhere_pq (cause : PqEntry → Bool) (s : State) :
    (sealWhere cause s).pq = s.pq.map fun e => if cause e then e.toSealed else e := rfl

/-- `sealWhere` changes the PQ and the stream records alone. -/
theorem sealWhere_frame (cause : PqEntry → Bool) (s : State) :
    sealWhere cause s = (s.setPq (sealWhere cause s).pq).setStreams (sealWhere cause s).streams := rfl

/-- R14: a stream record after a seal. -/
theorem sealWhere_stream (cause : PqEntry → Bool) (s : State) (i : StreamNo) :
    (sealWhere cause s).streams[i] =
      if s.pq.any (fun e => e.isOpen && cause e && e.stream == i) then { s.streams[i] with openEntry := none }
      else s.streams[i] := by
  simp [sealWhere, mapStreams]

/-- `sealAll` leaves no entry OPEN and no open-entry field set, and changes nothing else. -/
theorem sealAll_eq (s : State) :
    sealAll s = (s.setPq (s.pq.map PqEntry.toSealed)).setStreams
      (Vector.ofFn fun i => { s.streams[i] with openEntry := none }) := rfl

/-! ### Drain and PRT -/

/-- R123: the drain completes, or nothing changes. -/
theorem checkDrain_cases (s : State) :
    (s.opState = .draining ∧ s.pq = [] ∧ s.prt = [] ∧ checkDrain s = s.setOpState .offline) ∨
      (¬(s.opState = .draining ∧ s.pq = [] ∧ s.prt = []) ∧ checkDrain s = s) := by
  unfold checkDrain
  split
  · rename_i h; exact .inl ⟨h.1, h.2.1, h.2.2, rfl⟩
  · exact .inr ⟨‹_›, rfl⟩

/-- `checkDrain` changes the operating state alone. -/
theorem checkDrain_frame (s : State) : checkDrain s = s.setOpState (checkDrain s).opState := by
  rcases checkDrain_cases s with ⟨-, -, -, h⟩ | ⟨-, h⟩ <;> rw [h] <;> rfl

/-- R63: `freePrt` takes the entry out of the PRT and may complete the drain. -/
theorem freePrt_frame (id : Nat) (s : State) :
    freePrt id s = (s.setPrt (s.prt.eraseP fun p => p.id == id)).setOpState (freePrt id s).opState :=
  checkDrain_frame _

@[simp] theorem PrtEntry.withoutHazards_id (gone : List Nat) (p : PrtEntry) : (p.withoutHazards gone).id = p.id := by
  unfold PrtEntry.withoutHazards; split <;> rfl

@[simp] theorem PrtEntry.withoutHazards_stream (gone : List Nat) (p : PrtEntry) :
    (p.withoutHazards gone).stream = p.stream := by
  unfold PrtEntry.withoutHazards; split <;> rfl

@[simp] theorem PrtEntry.withoutHazards_line (gone : List Nat) (p : PrtEntry) : (p.withoutHazards gone).line = p.line := by
  unfold PrtEntry.withoutHazards; split <;> rfl

@[simp] theorem PrtEntry.withoutHazards_nil (p : PrtEntry) : p.withoutHazards [] = p := by
  obtain ⟨id, i, l, o, n, ra, st⟩ := p
  cases st <;> simp [PrtEntry.withoutHazards]

/-- R20: the hazards that stay, as the statements spell them. -/
theorem prtAfterLeaving_eq (gone : List Nat) (prt : List PrtEntry) :
    prtAfterLeaving gone prt = prt.map (PrtEntry.withoutHazards gone) := by
  refine List.map_congr_left fun p _ => ?_
  obtain ⟨id, i, l, o, n, ra, st⟩ := p
  cases st <;> simp [PrtEntry.withoutHazards]

/-- R62: the PRT after an accepted write. -/
theorem writeMeetsPrt_eq (l : Line) (s : State) :
    writeMeetsPrt l s = s.setPrt
      ((s.prt.filter fun p => !(p.line == l && p.isLingering)).map fun p => if p.line = l then p.metByWrite else p) := rfl

/-! ### Entries that leave -/

/-- R20: an entry leaves the PQ and the hazard sets, and nothing else changes. -/
theorem leavePq_eq (id : Nat) (s : State) :
    leavePq id s = (s.setPq (s.pq.eraseP fun e => e.id == id)).setPrt (s.prt.map (PrtEntry.withoutHazards [id])) := rfl

/-- R34: the entries that remain are the earlier ones kept and some of those judged, in order. -/
theorem voidScan_kept (streams : Vector StreamRecord 8) (l kept : List PqEntry) :
    ∃ rest, (voidScan streams kept l).1 = kept ++ rest ∧ rest.Sublist l := by
  induction l generalizing kept with
  | nil => exact ⟨[], by simp [voidScan], List.Sublist.slnil⟩
  | cons e l ih =>
    unfold voidScan
    split
    · obtain ⟨rest, h, hs⟩ := ih kept
      exact ⟨rest, h, hs.cons e⟩
    · obtain ⟨rest, h, hs⟩ := ih (kept ++ [e])
      exact ⟨e :: rest, by simpa using h, hs.cons_cons e⟩

/-- R34: the entries voided are some of those judged, in order. -/
theorem voidScan_gone (streams : Vector StreamRecord 8) (l kept : List PqEntry) :
    (voidScan streams kept l).2.Sublist l := by
  induction l generalizing kept with
  | nil => simp [voidScan]
  | cons e l ih =>
    unfold voidScan
    split
    · exact (ih kept).cons_cons e
    · exact (ih (kept ++ [e])).cons e

/-- R34: every entry voided is SEALED and carries a set void mark. -/
theorem voidScan_gone_marked (streams : Vector StreamRecord 8) (l kept : List PqEntry) :
    ∀ e ∈ (voidScan streams kept l).2, e.isSealed = true ∧ e.isVoidMarked = true := by
  induction l generalizing kept with
  | nil => simp [voidScan]
  | cons e l ih =>
    unfold voidScan
    split
    · rename_i h
      simp only [Bool.and_eq_true] at h
      intro x hx
      rcases List.mem_cons.mp hx with rfl | hx
      · exact ⟨h.1.1, h.1.2⟩
      · exact ih kept x hx
    · exact ih (kept ++ [e])

/-- R36, R37: the counting and notice of a voided entry change the counters, the NQ and NOTICES_LOST alone. -/
theorem noteVoided_frame (s : State) (e : PqEntry) :
    ∃ c n k, noteVoided s e = ((s.setCounters c).setNq n).setNoticesLost k := by
  exact ⟨(bump .flagsVoided s).counters, _, _, noticeOfLeaving_frame e .voided (bump .flagsVoided s)⟩

theorem noteVoided_foldl_frame (l : List PqEntry) (s : State) :
    ∃ c n k, l.foldl noteVoided s = ((s.setCounters c).setNq n).setNoticesLost k := by
  induction l generalizing s with
  | nil => exact ⟨s.counters, s.nq, s.noticesLost, rfl⟩
  | cons e l ih =>
    obtain ⟨c1, n1, k1, h1⟩ := noteVoided_frame s e
    obtain ⟨c, n, k, h⟩ := ih (((s.setCounters c1).setNq n1).setNoticesLost k1)
    refine ⟨c, n, k, ?_⟩
    rw [List.foldl_cons, h1, h]
    rfl

/-- R34: all that the judging of marked entries can change. -/
theorem voidPass_frame (s : State) :
    ∃ q p c n k, voidPass s = ((((s.setPq q).setPrt p).setCounters c).setNq n).setNoticesLost k ∧
      q = (voidScan s.streams [] s.pq).1 ∧
      p = s.prt.map (PrtEntry.withoutHazards ((voidScan s.streams [] s.pq).2.map PqEntry.id)) := by
  obtain ⟨c, n, k, h⟩ := noteVoided_foldl_frame (voidScan s.streams [] s.pq).2
    ((s.setPq (voidScan s.streams [] s.pq).1).setPrt
      (s.prt.map (PrtEntry.withoutHazards ((voidScan s.streams [] s.pq).2.map PqEntry.id))))
  exact ⟨_, _, c, n, k, h, rfl, rfl⟩

@[simp] theorem PqEntry.voidMarkedBy_id (i : StreamNo) (e : PqEntry) : (e.voidMarkedBy i).id = e.id := by
  unfold PqEntry.voidMarkedBy; split
  · split <;> rfl
  · rfl

@[simp] theorem PqEntry.voidMarkedBy_stream (i : StreamNo) (e : PqEntry) : (e.voidMarkedBy i).stream = e.stream := by
  unfold PqEntry.voidMarkedBy; split
  · split <;> rfl
  · rfl

@[simp] theorem PqEntry.voidMarkedBy_line (i : StreamNo) (e : PqEntry) : (e.voidMarkedBy i).line = e.line := by
  unfold PqEntry.voidMarkedBy; split
  · split <;> rfl
  · rfl

@[simp] theorem PqEntry.voidMarkedBy_state (i : StreamNo) (e : PqEntry) : (e.voidMarkedBy i).state = e.state := by
  unfold PqEntry.voidMarkedBy; split
  · split <;> rfl
  · rfl

/-! ### Timers -/

/-- R162: a timer below its limit advances by one; at its limit it stays. -/
theorem Timer.advance_cases (t : Timer) :
    (t.count < t.limit ∧ t.advance = { t with count := t.count + 1 }) ∨ (t.limit ≤ t.count ∧ t.advance = t) := by
  unfold Timer.advance
  split
  · exact .inl ⟨‹_›, rfl⟩
  · exact .inr ⟨by omega, rfl⟩

/-- R60: a claim time-out frees the due entry of the stream and line, or changes nothing. -/
theorem expireClaim_cases (i : StreamNo) (l : Line) (s : State) :
    expireClaim i l s = s ∨
      ∃ p ∈ s.prt, p.stream = i ∧ p.line = l ∧ p.claimDue = true ∧
        expireClaim i l s = freePrt p.id (bump .readsUnclaimed (offerError (.readUnclaimed p.stream p.line) s)) := by
  unfold expireClaim prtEntryAt
  split
  · rename_i p h
    have hp := List.find?_some h
    simp only [Bool.and_eq_true, beq_iff_eq] at hp
    split
    · exact .inr ⟨p, List.mem_of_find?_eq_some h, hp.1, hp.2, ‹_›, rfl⟩
    · exact .inl rfl
  · exact .inl rfl

/-- R61: a linger expiry frees the due entry of the stream and line, or changes nothing. -/
theorem expireLinger_cases (i : StreamNo) (l : Line) (s : State) :
    expireLinger i l s = s ∨
      ∃ p ∈ s.prt, p.stream = i ∧ p.line = l ∧ p.lingerDue = true ∧ expireLinger i l s = freePrt p.id s := by
  unfold expireLinger prtEntryAt
  split
  · rename_i p h
    have hp := List.find?_some h
    simp only [Bool.and_eq_true, beq_iff_eq] at hp
    split
    · exact .inr ⟨p, List.mem_of_find?_eq_some h, hp.1, hp.2, ‹_›, rfl⟩
    · exact .inl rfl
  · exact .inl rfl

/-- R81: a memory time-out lapses a due BUSY tag and tells its owner, or changes nothing. -/
theorem expireMemory_cases (t : TagNo) (s : State) :
    expireMemory t s = s ∨
      ∃ o timer, s.tags[t] = .busy o timer ∧ timer.due = true ∧
        expireMemory t s = recordExhausted (tellOwnerLapsed t o (bump .memTimeouts (setTag t .lapsed s))) := by
  unfold expireMemory
  split
  · rename_i o timer h
    split
    · exact .inr ⟨o, timer, h, ‹_›, rfl⟩
    · exact .inl rfl
  · exact .inl rfl
  · exact .inl rfl

/-! ### Arrivals and held events -/

theorem State.waitsAt_iff (s : State) (p : Port) : s.waitsAt p = true ↔ ∃ h ∈ s.held, h.port = some p := by
  simp [State.waitsAt]

/-- R117, R162, R163: a D-bus transaction is not taken, waits, or is taken. -/
theorem arriveAtDeviceBus_cases (c : Instr) (take : State → State) (s : State) :
    ((s.por = true ∨ s.busReset = true) ∧ arriveAtDeviceBus c take s = s) ∨
      (s.por = false ∧ s.busReset = false ∧ s.refclkStopped = true ∧ arriveAtDeviceBus c take s = holdEvent (.arrival c) s) ∨
      (s.por = false ∧ s.busReset = false ∧ s.refclkStopped = false ∧ arriveAtDeviceBus c take s = take s) := by
  unfold arriveAtDeviceBus
  cases s.por <;> cases s.busReset <;> cases s.refclkStopped <;> simp

/-- R162, R163: a response is not taken, waits, or is taken. -/
theorem arriveAtMemoryLink_cases (c : Instr) (take : State → State) (s : State) :
    (s.por = true ∧ arriveAtMemoryLink c take s = s) ∨
      (s.por = false ∧ s.refclkStopped = true ∧ arriveAtMemoryLink c take s = holdEvent (.arrival c) s) ∨
      (s.por = false ∧ s.refclkStopped = false ∧ arriveAtMemoryLink c take s = take s) := by
  unfold arriveAtMemoryLink
  cases s.por <;> cases s.refclkStopped <;> simp

/-- R162: the oldest held event is taken, or none waits. -/
theorem takeOldestHeld_cases (s : State) :
    (s.held = [] ∧ takeOldestHeld s = s) ∨
      ∃ h rest, s.held = h :: rest ∧ takeOldestHeld s = takeDueGrants (takeEvent h (s.setHeld rest)) := by
  unfold takeOldestHeld
  cases hs : s.held with
  | nil => exact .inl ⟨rfl, rfl⟩
  | cons h rest => exact .inr ⟨h, rest, rfl, rfl⟩

/-- With no event held there is nothing to take. -/
theorem takeHeldUpTo_nil (n : Nat) (s : State) (h : s.held = []) : takeHeldUpTo n s = s := by
  induction n with
  | zero => rfl
  | succ n ih =>
    unfold takeHeldUpTo
    rcases takeOldestHeld_cases s with ⟨-, e⟩ | ⟨x, rest, e, -⟩
    · rw [e]; exact ih
    · rw [h] at e; cases e

/-- R162, R73: where REFCLK stops, what is due is taken first; where it runs on nothing happens. -/
theorem takeDueBeforeStop_cases (stops : Bool) (s : State) :
    (stops = true ∧ takeDueBeforeStop stops s = takeDue s) ∨ (stops = false ∧ takeDueBeforeStop stops s = s) := by
  cases stops
  · exact .inr ⟨rfl, rfl⟩
  · exact .inl ⟨rfl, rfl⟩

/-! ### Grants -/

/-- R73: one grant is made where one is due, to the candidate of a class under the lowest FREE tag; otherwise nothing changes. -/
theorem grantOnce_cases (s : State) :
    (grantDue s = false ∧ grantOnce s = s) ∨
      (grantDue s = true ∧ ∃ t, lowestFreeTag s.tags = some t ∧
        ((∃ e, writeCandidate s = some e ∧ grantOnce s = grantWrite t e s) ∨
          ∃ p, readCandidate s = some p ∧ grantOnce s = grantRead t p s)) := by
  unfold grantOnce grantDue
  cases s.por <;> cases s.ready <;> cases lowestFreeTag s.tags <;> try exact .inl ⟨rfl, rfl⟩
  rename_i t
  unfold grantCandidate
  cases hw : writeCandidate s <;> cases hr : readCandidate s
  · exact .inl ⟨rfl, rfl⟩
  · exact .inr ⟨rfl, t, rfl, .inr ⟨_, rfl, rfl⟩⟩
  · exact .inr ⟨rfl, t, rfl, .inl ⟨_, rfl, rfl⟩⟩
  · refine .inr ⟨rfl, t, rfl, ?_⟩
    cases arbiterChoice s
    · exact .inl ⟨_, rfl, rfl⟩
    · exact .inr ⟨_, rfl, rfl⟩

/-- R73: a grant changes the tags, the PQ, the PRT, the last granted record and the requests sent alone. -/
theorem grantOnce_frame (s : State) :
    ∃ tags q p g r, grantOnce s = ((((s.setTags tags).setPq q).setPrt p).setLastGranted g).setRequests r := by
  rcases grantOnce_cases s with ⟨-, h⟩ | ⟨-, t, -, ⟨e, -, h⟩ | ⟨p, -, h⟩⟩ <;> rw [h] <;> clear h
  · cases s; exact ⟨_, _, _, _, _, rfl⟩
  · refine ⟨(grantWrite t e s).tags, (grantWrite t e s).pq, s.prt, .write, (grantWrite t e s).requests, ?_⟩
    cases s; rfl
  · refine ⟨(grantRead t p s).tags, s.pq, (grantRead t p s).prt, .read, (grantRead t p s).requests, ?_⟩
    cases s; rfl

/-- R73: a run of grants changes no more than one grant does. -/
theorem takeDueGrants_frame (s : State) :
    ∃ tags q p g r, takeDueGrants s = ((((s.setTags tags).setPq q).setPrt p).setLastGranted g).setRequests r := by
  unfold takeDueGrants
  induction allTags generalizing s with
  | nil => cases s; exact ⟨_, _, _, _, _, rfl⟩
  | cons t ts ih =>
    obtain ⟨a, b, c, d, e, h⟩ := grantOnce_frame s
    obtain ⟨a', b', c', d', e', h'⟩ := ih (grantOnce s)
    rw [List.foldl_cons, h', h]
    clear h h' ih
    cases s
    exact ⟨a', b', c', d', e', rfl⟩

/-! ### Frames -/

/-- R163: under PORn no edge makes a frame be received. -/
theorem FrameProgress.edge_under_porn (held : Reply) (f : FrameProgress) (e : PortEdge) (h : ∀ bits r, f ≠ .receiving bits r) :
    ∀ bits r, f.edge true held e ≠ .receiving bits r := by
  cases f with
  | receiving bits r => exact absurd rfl (h bits r)
  | csHigh => cases e <;> simp [FrameProgress.edge]
  | underReset r n => cases e <;> simp [FrameProgress.edge]

/-- R148: SCK cycles add their bits to a frame that is received. -/
theorem FrameProgress.edges_receive (por : Bool) (held sending : Reply) (old bits : List Bool) :
    (bits.map PortEdge.sck).foldl (FrameProgress.edge por held) (.receiving old sending) = .receiving (old ++ bits) sending := by
  induction bits generalizing old with
  | nil => simp
  | cons b bits ih => simpa [FrameProgress.edge] using ih (old ++ [b])

/-- `portEdges` changes the frame in progress alone. -/
theorem portEdges_eq (edges : List PortEdge) (s : State) :
    portEdges edges s = s.setFrameInProgress (edges.foldl (FrameProgress.edge s.por s.reply) s.frameInProgress) := rfl

/-- The end of a frame changes MISO and the frame in progress alone. -/
theorem frameEnded_eq (f : Frame) (s : State) :
    frameEnded f s = (s.setMisos (s.misos ++ [misoAtEnd s f])).setFrameInProgress .csHigh := rfl

/-- R149, R150: a frame leaves FRAME_ERROR, or its row's action and reply. -/
theorem takeFrame_cases (c : Instr) (f : Frame) (s : State) :
    (parseFrame f = none ∧ takeFrame c f s = s.setReply (bareReply .frameError)) ∨
      ∃ r, parseFrame f = some r ∧ takeFrame c f s = (rowAction c r s).1.setReply (rowAction c r s).2 := by
  unfold takeFrame
  cases parseFrame f with
  | none => exact .inl ⟨rfl, rfl⟩
  | some r => exact .inr ⟨r, rfl, rfl⟩

/-- R164: the end of a frame that is taken leaves FRAME_ERROR where PORn spoiled the frame, and executes it otherwise. -/
theorem takeFrameEnd_cases (c : Instr) (f : Frame) (s : State) :
    ((∃ r n, s.frameInProgress = .underReset r n) ∧ takeFrameEnd c f s = takeSpoiledFrame (frameEnded f s)) ∨
      ((∀ r n, s.frameInProgress ≠ .underReset r n) ∧ takeFrameEnd c f s = takeFrame c f (frameEnded f s)) := by
  unfold takeFrameEnd
  cases s.frameInProgress <;> simp

/-- R162, R164: the end of a frame that is held, spoiled by PORn or not. -/
theorem holdFrameEnd_cases (c : Instr) (f : Frame) (s : State) :
    ((∃ r n, s.frameInProgress = .underReset r n) ∧ holdFrameEnd c f s = holdEvent .spoiledFrame (frameEnded f s)) ∨
      ((∀ r n, s.frameInProgress ≠ .underReset r n) ∧ holdFrameEnd c f s = holdEvent (.arrival c) (frameEnded f s)) := by
  unfold holdFrameEnd
  cases s.frameInProgress <;> simp

/-- R148, R162, R163: the ways in which the end of a management frame arrives: under PORn, taken, in a stop of REFCLK behind a frame end that
waits, and in a stop with none. -/
theorem arriveAtManagement_cases (c : Instr) (f : Frame) (s : State) :
    (s.por = true ∧ arriveAtManagement c f s = frameEnded f s) ∨
      (s.por = false ∧ s.refclkStopped = false ∧ arriveAtManagement c f s = takeFrameEnd c f s) ∨
      (s.por = false ∧ s.refclkStopped = true ∧ s.waitsAt .management = true ∧
        arriveAtManagement c f s = waitAtPort [.frameEnd c] s) ∨
      (s.por = false ∧ s.refclkStopped = true ∧ s.waitsAt .management = false ∧
        arriveAtManagement c f s = holdFrameEnd c f s) := by
  unfold arriveAtManagement
  cases s.por <;> cases s.waitsAt .management <;> cases s.refclkStopped <;> simp

/-- The command of a frame is the arrival of its end. -/
theorem endFrame_eq (c : Instr) (f : Frame) (s : State) (h : frameOfInstr c = some f) :
    endFrame c s = arriveAtManagement c f (s.setMisos []) := by
  unfold endFrame; rw [h]

/-- R148: edges wait behind a frame end that waits, and reach the frame in progress otherwise. -/
theorem edgesArrive_cases (edges : List PortEdge) (s : State) :
    (s.por = false ∧ s.waitsAt .management = true ∧ edgesArrive edges s = waitAtPort (edges.map .edge) s) ∨
      ((s.por = true ∨ s.waitsAt .management = false) ∧ edgesArrive edges s = portEdges edges s) := by
  unfold edgesArrive
  cases s.por <;> cases s.waitsAt .management <;> simp

/-- R148: edges that waited reach the frame in progress as those that did not. -/
theorem resumePort_edges (edges : List PortEdge) (rest : List PortEvent) (s : State) :
    resumePort (edges.map .edge ++ rest) s = resumePort rest (portEdges edges s) := by
  induction edges generalizing s with
  | nil => cases s; rfl
  | cons e edges ih => simpa only [List.map_cons, List.cons_append, resumePort] using (ih (portEdges [e] s)).trans (by cases s; rfl)

end Sys2Proof.Machine
end

