-- ==== Sys2Proof/Laws/PerInstr.lean ====
section
/-! SUPPORT. Lemmas made per command: the family FrameLead, with one lemma for each constructor of `Instr`. -/

namespace Sys2Proof.Laws

open Sys2Proof.Machine

/-- The command's frame, where it has one, begins with the row's own bytes. -/
def FrameLead.Statement (c : Instr) : Prop :=
  ∀ f, frameOfInstr c = some f → rowBytes c <+: f.bytes

theorem FrameLead.write (i : StreamNo) (a : Address) (d : List Byte) : FrameLead.Statement (.write i a d) := by
  intro _ h
  cases h

theorem FrameLead.read (i : StreamNo) (a : Address) (n : Nat) : FrameLead.Statement (.read i a n) := by
  intro _ h
  cases h

theorem FrameLead.grant : FrameLead.Statement .grant := by
  intro _ h
  cases h

theorem FrameLead.writeResponse (t : TagNo) (r : ResponseStatus) : FrameLead.Statement (.writeResponse t r) := by
  intro _ h
  cases h

theorem FrameLead.readResponse (t : TagNo) (r : ReadResult) : FrameLead.Statement (.readResponse t r) := by
  intro _ h
  cases h

theorem FrameLead.readyAssertion : FrameLead.Statement .readyAssertion := by
  intro _ h
  cases h

theorem FrameLead.readyDeassertion : FrameLead.Statement .readyDeassertion := by
  intro _ h
  cases h

theorem FrameLead.tick : FrameLead.Statement .tick := by
  intro _ h
  cases h

theorem FrameLead.combineAgeExpiry (i : StreamNo) : FrameLead.Statement (.combineAgeExpiry i) := by
  intro _ h
  cases h

theorem FrameLead.claimTimeOut (i : StreamNo) (l : Line) : FrameLead.Statement (.claimTimeOut i l) := by
  intro _ h
  cases h

theorem FrameLead.lingerTimerExpiry (i : StreamNo) (l : Line) : FrameLead.Statement (.lingerTimerExpiry i l) := by
  intro _ h
  cases h

theorem FrameLead.memoryTimeOut (t : TagNo) : FrameLead.Statement (.memoryTimeOut t) := by
  intro _ h
  cases h

theorem FrameLead.dBusReset : FrameLead.Statement .dBusReset := by
  intro _ h
  cases h

theorem FrameLead.releaseOfDrstn : FrameLead.Statement .releaseOfDrstn := by
  intro _ h
  cases h

theorem FrameLead.powerOnReset : FrameLead.Statement .powerOnReset := by
  intro _ h
  cases h

theorem FrameLead.releaseOfPorn (b c : Bool) : FrameLead.Statement (.releaseOfPorn b c) := by
  intro _ h
  cases h

theorem FrameLead.nop (f : Frame) : FrameLead.Statement (.nop f) := by
  intro _ _
  exact List.nil_prefix

theorem FrameLead.readItem (t : FrameTail) : FrameLead.Statement (.readItem t) := by
  intro _ h
  cases h
  exact ⟨t.bytes, rfl⟩

theorem FrameLead.writeItem (t : FrameTail) : FrameLead.Statement (.writeItem t) := by
  intro _ h
  cases h
  exact ⟨t.bytes, rfl⟩

theorem FrameLead.writeItemWindow (w : WindowNo) (t : FrameTail) : FrameLead.Statement (.writeItemWindow w t) := by
  intro _ h
  cases h
  have number : beBytes 2 (0x20 + w.val) = [0x00, BitVec.ofNat 8 (0x20 + w.val)] := by revert w; decide
  refine ⟨t.bytes, ?_⟩
  show [0x02, 0x00, BitVec.ofNat 8 (0x20 + w.val)] ++ t.bytes = 0x02 :: (beBytes 2 (0x20 + w.val) ++ t.bytes)
  rw [number]
  rfl

theorem FrameLead.writeItemTimer (k : TimerItem) (t : FrameTail) : FrameLead.Statement (.writeItemTimer k t) := by
  cases k <;> (intro _ h; cases h; exact ⟨t.bytes, rfl⟩)

theorem FrameLead.writeItemOrderMode (i : StreamNo) (t : FrameTail) : FrameLead.Statement (.writeItemOrderMode i t) := by
  intro _ h
  cases h
  have number : beBytes 2 (0x30 + i.val) = [0x00, BitVec.ofNat 8 (0x30 + i.val)] := by revert i; decide
  refine ⟨t.bytes, ?_⟩
  show [0x02, 0x00, BitVec.ofNat 8 (0x30 + i.val)] ++ t.bytes = 0x02 :: (beBytes 2 (0x30 + i.val) ++ t.bytes)
  rw [number]
  rfl

theorem FrameLead.start (t : FrameTail) : FrameLead.Statement (.start t) := by
  intro _ h
  cases h
  exact ⟨t.bytes, rfl⟩

theorem FrameLead.stop (t : FrameTail) : FrameLead.Statement (.stop t) := by
  intro _ h
  cases h
  exact ⟨t.bytes, rfl⟩

theorem FrameLead.clear (t : FrameTail) : FrameLead.Statement (.clear t) := by
  intro _ h
  cases h
  exact ⟨t.bytes, rfl⟩

theorem FrameLead.hold (t : FrameTail) : FrameLead.Statement (.hold t) := by
  intro _ h
  cases h
  exact ⟨t.bytes, rfl⟩

theorem FrameLead.unhold (t : FrameTail) : FrameLead.Statement (.unhold t) := by
  intro _ h
  cases h
  exact ⟨t.bytes, rfl⟩

theorem FrameLead.clearFault (t : FrameTail) : FrameLead.Statement (.clearFault t) := by
  intro _ h
  cases h
  exact ⟨t.bytes, rfl⟩

theorem FrameLead.takeNotice (t : FrameTail) : FrameLead.Statement (.takeNotice t) := by
  intro _ h
  cases h
  exact ⟨t.bytes, rfl⟩

theorem FrameLead.takeErrorRecordForm (t : FrameTail) : FrameLead.Statement (.takeErrorRecordForm t) := by
  intro _ h
  cases h
  exact ⟨t.bytes, rfl⟩

theorem FrameLead.takeErrorLostCountForm (t : FrameTail) : FrameLead.Statement (.takeErrorLostCountForm t) := by
  intro _ h
  cases h
  exact ⟨t.bytes, rfl⟩

theorem FrameLead.freeLapsed (t : FrameTail) : FrameLead.Statement (.freeLapsed t) := by
  intro _ h
  cases h
  exact ⟨t.bytes, rfl⟩

theorem FrameLead.refclkCycle : FrameLead.Statement .refclkCycle := by
  intro _ h
  cases h

end Sys2Proof.Laws
end

