-- ==== Sys2Proof/Tests/Slice0.lean ====
section
/-! SUPPORT. Tests of the model: ill-formed terms refused, frames written out from the book's bytes, one step of each command with
the book's result, and a witness for the hypotheses of every statement of the obligations. -/

namespace Sys2Proof.Tests

open Sys2Proof Sys2Proof.Machine

set_option Elab.async false

/-! ### Helpers -/

/-- The state after a command; the state itself where the command stops. -/
def after (c : Instr) (s : State) : State :=
  match exec c s with
  | .next t => t
  | .fault _ | .refused _ => s

/-- The address of an offset of a line. -/
def addr (line offset : Nat) : Address := BitVec.ofNat 40 (line * 64 + offset)

/-- Data of `n` bytes, all of value `b`. -/
def fill (n : Nat) (b : Byte) : List Byte := List.replicate n b

/-- A window over one page. -/
def onePage (p : Page) (wt : WriteTreatment) (rt : ReadTreatment) (notify : Bool) : Window :=
  { enabled := true, base := p, limit := p, writeTreatment := wt, readTreatment := rt, notify := notify }

/-- ONLINE and ready, with a MERGE and LINE window on page 0 (lines 0–63), POST and SINGLE on page 1 (lines 64–127), RELEASE with
notify on page 2 (lines 128–191), and REFUSE on page 3 (lines 192–255). -/
def served : State :=
  ((State.reset.setOpState .online).setReady true).setWindows
    ((((State.reset.windows.set 0 (onePage 0 .merge .line false)).set 1 (onePage 1 .post .single false)).set 2
      (onePage 2 .release .single true)).set 3 (onePage 3 .refuse .refuse false))

/-- A PLAIN entry of a POST window. -/
def plainEntry (id : Nat) (i : StreamNo) (l : Line) (st : EntryState) : PqEntry :=
  { id := id, stream := i, line := l, bytes := transferBytes 0 (fill 16 0xAA), kind := .plain false, state := st }

/-- A RELEASE entry of window 2. -/
def flagEntry (id : Nat) (i : StreamNo) (l : Line) (mark : Bool) : PqEntry :=
  { id := id, stream := i, line := l, bytes := transferBytes 0 (fill 4 0xF1), kind := .release 2 true mark, state := .sealed }

/-- A parked read whose origin is offset 0, 16 bytes. -/
def readEntry (id : Nat) (i : StreamNo) (l : Line) (ra : Bool) (st : ReadState) : PrtEntry :=
  { id := id, stream := i, line := l, originOffset := 0, originCount := 16, readAhead := ra, state := st }

/-- A line whose every byte is its offset. -/
def lineOfOffsets : LineData := Vector.ofFn fun k => BitVec.ofNat 8 k.val

/-- The stream's record with its open-entry field set. -/
def opening (i : StreamNo) (id : Nat) (s : State) : State :=
  s.setStreams (s.streams.set i { s.streams[i] with openEntry := some id })

/-- A full or nearly full PQ: `n` SEALED entries of stream 0 on lines of page 1. -/
def queueOf (n : Nat) : State :=
  (served.setPq ((List.range n).map fun k => plainEntry k 0 (BitVec.ofNat 34 (64 + k)) .sealed)).setNextId n

/-- Stream 1 has an OPEN entry of age 2 on line 0, holding offsets 0–31. -/
def withOpen : State :=
  opening 1 0 ((served.setPq [{ plainEntry 0 1 0 (.opened { count := 2, limit := 8 }) with
    bytes := transferBytes 0 (fill 32 0x11), kind := .plain true }]).setNextId 1)

/-- One PRT entry in each state; stream 0's read waits for the PQ entry on its line. -/
def reads : State :=
  (((served.setPq [plainEntry 0 7 5 .sealed]).setPrt
    [readEntry 10 0 5 true (.waiting [0]), readEntry 11 1 11 true (.fetching 3),
     readEntry 12 2 12 true (.parked .fault { count := 5, limit := 1000 }),
     readEntry 13 3 13 true (.parked (.data lineOfOffsets) { count := 0, limit := 1000 }),
     readEntry 14 4 14 false (.parked (.data lineOfOffsets) { count := 0, limit := 1000 }),
     readEntry 15 5 15 true (.lingering lineOfOffsets { count := 7, limit := 50 }),
     readEntry 16 6 16 true (.waiting [])]).setTags
    (served.tags.set 3 (.busy (.prtEntry 11) { count := 9, limit := 2000 }))).setNextId 17

/-- A full PRT; with `linger`, the entries of streams 2 and 5 are LINGERING. -/
def fullTable (linger : Bool) : State :=
  (served.setPrt ((List.finRange 8).map fun k =>
    readEntry k.val k (BitVec.ofNat 34 k.val) true
      (if linger ∧ (k = 2 ∨ k = 5) then .lingering lineOfOffsets { count := 0, limit := 50 }
       else .parked (.data lineOfOffsets) { count := 0, limit := 1000 }))).setNextId 8

/-- Section 2.8, step 3, in small: a PLAIN entry of stream 4 ISSUED under tag 1, and its flag behind it. -/
def flagBehindData : State :=
  ((served.setPq [plainEntry 0 4 64 (.issued 1), flagEntry 1 4 128 false]).setTags
    (served.tags.set 1 (.busy (.pqEntry 0) { count := 0, limit := 2000 }))).setNextId 2

/-- Every kind of timer at its limit, with a BUSY tag for each kind of owner. -/
def allDue : State :=
  opening 1 0 ((((served.setPq
    [{ plainEntry 0 1 0 (.opened { count := 8, limit := 8 }) with kind := .plain true }, plainEntry 1 2 64 (.issued 0)]).setPrt
    [readEntry 2 3 13 true (.parked .fault { count := 1000, limit := 1000 }),
     readEntry 3 4 14 true (.lingering lineOfOffsets { count := 50, limit := 50 }), readEntry 4 5 15 true (.fetching 1)]).setTags
    (((served.tags.set 0 (.busy (.pqEntry 1) { count := 2000, limit := 2000 })).set 1
      (.busy (.prtEntry 4) { count := 2000, limit := 2000 })).set 2 (.busy .orphan { count := 2000, limit := 2000 }))).setNextId 5)

/-- Stream 3 is held. -/
def held3 : State := served.setStreams (served.streams.set 3 { served.streams[(3 : StreamNo)] with hold := true })

/-- The fault mark of stream 4 is set. -/
def faulty4 : State := served.setStreams (served.streams.set 4 { served.streams[(4 : StreamNo)] with faultMark := true })

/-- PORn is asserted. -/
def underPorn : State := powerOnState served

/-- REFCLK is stopped. -/
def stopped : State := served.setRefclkStopped true

/-- REFCLK is stopped, ready is deasserted, and a WRITE of stream 1, a Read Response for tag 3 and a START frame wait; CS has fallen
again since. -/
def waiting : State :=
  (((reads.setReady false).setRefclkStopped true).setHeld [.arrival (.write 1 (addr 64 0) (fill 16 0x22)),
    .arrival (.readResponse 3 (.ok lineOfOffsets)), .arrival (.start (framed 0 0 []))]).setPortWaiting [.edge .csFall]

/-- `flagBehindData` with REFCLK stopped and the Write Response for tag 1 waiting. -/
def responseWaits : State :=
  (flagBehindData.setRefclkStopped true).setHeld [.arrival (.writeResponse 1 .ok)]

/-- Every tag is LAPSED, an entry waits for one, REFCLK is stopped, and a FREE LAPSED frame waits; behind it a READ ITEM
frame has come and ended, and a further frame begun. -/
def frameWaits : State :=
  (((((served.setPq [plainEntry 0 7 64 .sealed]).setNextId 1).setTags (Vector.replicate 16 .lapsed)).setRefclkStopped true).setHeld
    [.arrival (.freeLapsed (framed 0 0 []))]).setPortWaiting
      [.edge .csFall, .edge (.sck true), .frameEnd (.readItem (framed 0 0 [])), .edge .csFall, .edge (.sck false)]

/-- An entry waits for the grant that is due, and a Write Response with fault for tag 0 waits at the M-link. -/
def earlyResponse : State :=
  (((served.setPq [plainEntry 0 7 64 .sealed]).setNextId 1).setHeld [.arrival (.writeResponse 0 .fault)]).setRefclkStopped true

/-- Two entries of a line, the first one tick before its time-out, and a REFCLK that stops after the cycle. -/
def timeOutBeforeStop : State :=
  (((served.setPq [plainEntry 0 7 64 (.issued 0), plainEntry 1 7 64 .sealed]).setNextId 2).setTags
    (served.tags.set 0 (.busy (.pqEntry 0) { count := 1999, limit := 2000 }))).setCycleInputs [{ edges := [], stops := true }]

/-- CS is low, and the first 12 bits of a frame have come in while the reply OK with three bytes of ID goes out. -/
def midFrame : State :=
  served.setFrameInProgress (.receiving (List.replicate 12 true) { status := .ok, data := [0x24, 0x40, 0x01] })

/-- A frame that PORn interrupted after 12 SCK cycles, PORn released again. -/
def spoiled : State := served.setFrameInProgress (.underReset { status := .badValue, data := [0xFF] } 12)

/-- The board lets CS fall and shifts in two bits before the next REFCLK cycle, after which REFCLK stops. -/
def csFalls : State := served.setCycleInputs [{ edges := [.csFall, .sck true, .sck false], stops := true }]

/-- DRSTn is asserted. -/
def underDrstn : State := (served.setDrstn true).setBusReset true

/-! ### Ill-formed terms are refused -/

theorem test_nop_with_start_frame_refused : (Instr.nop (commandFrame .start (framed 0 0 []))).WellFormed = false := by decide +kernel

theorem test_writeItem_naming_window_refused : (Instr.writeItem (framed 0 0x21 [])).WellFormed = false := by decide +kernel

theorem test_takeErrorRecord_naming_lost_count_refused : (Instr.takeErrorRecordForm (framed 0 1 [])).WellFormed = false := by decide +kernel

theorem test_writeItem_naming_counter_wellFormed : (Instr.writeItem (framed 0 0x40 [])).WellFormed = true := by decide +kernel

/-! ### Frames from the book's bytes (section 9.9) -/

theorem test_frame_readItem_id : instrOfFrame ⟨[0x01, 0x00, 0x00, 0x00], 0⟩ = .readItem (framed 0 0 []) := by decide +kernel

theorem test_frame_writeItem_combineAge :
    instrOfFrame ⟨[0x02, 0x00, 0x10, 0x02, 0x01, 0x2C], 0⟩ = .writeItemTimer .combineAge (framedData [0x01, 0x2C]) := by decide +kernel

theorem test_frame_writeItem_window1 :
    instrOfFrame ⟨[0x02, 0x00, 0x21, 0x0C, 0x01, 0x00, 0x00, 0x00, 0x08, 0x00, 0x00, 0x00, 0x08, 0xFF, 0x01, 0x01], 0⟩ =
      .writeItemWindow 1 (framedData [0x01, 0x00, 0x00, 0x00, 0x08, 0x00, 0x00, 0x00, 0x08, 0xFF, 0x01, 0x01]) := by decide +kernel

theorem test_frame_start : instrOfFrame ⟨[0x10, 0x00, 0x00, 0x00], 0⟩ = .start (framed 0 0 []) := by decide +kernel

theorem test_frame_lost_count_form : instrOfFrame ⟨[0x31, 0x00, 0x01, 0x00], 0⟩ = .takeErrorLostCountForm (framedData []) := by decide +kernel

theorem test_frame_unknown_command : instrOfFrame ⟨[0x03, 0x00, 0x00, 0x00], 0⟩ = .nop ⟨[0x03, 0x00, 0x00, 0x00], 0⟩ := by decide +kernel

/-! ### WRITE (section 1.9) -/

theorem test_write_appends_open_entry :
    (after (.write 1 (addr 0 16) (fill 16 0x22)) served).pq =
      [{ id := 0, stream := 1, line := 0, bytes := transferBytes 16 (fill 16 0x22), kind := .plain true,
         state := .opened { count := 0, limit := 8 } }] := by decide +kernel

theorem test_write_of_another_stream_seals :
    (after (.write 3 (addr 0 0) (fill 16 0x33)) withOpen).pq.map (fun e => (e.stream, e.isOpen)) = [(1, false), (3, true)] := by
  decide +kernel

/-! ### READ (section 3.9) -/

theorem test_read_parks_behind_open_entry :
    (after (.read 5 (addr 0 8) 8) withOpen).prt =
      [{ id := 1, stream := 5, line := 0, originOffset := 8, originCount := 8, readAhead := true, state := .waiting [0] }] ∧
      (after (.read 5 (addr 0 8) 8) withOpen).pq.map PqEntry.isSealed = [true] := by decide +kernel

theorem test_read_claims_and_lingers :
    (after (.read 3 (addr 13 8) 8) reads).answers = [.data [8, 9, 10, 11, 12, 13, 14, 15]] ∧
      (after (.read 3 (addr 13 8) 8) reads).prt.map PrtEntry.isLingering = [false, false, false, true, false, true, false] := by
  decide +kernel

/-! ### The memory link (sections 4.8, 2.8) -/

theorem test_grant_read_class_first :
    (after .grant reads).requests = [.readRequest 0 16] ∧ (after .grant reads).lastGranted = .read := by decide +kernel

theorem test_grant_then_write_class :
    (after .grant (after .grant reads)).requests = [.writeRequest 1 5 (transferBytes 0 (fill 16 0xAA))] := by decide +kernel

/-- R73, R162: the grants that are due come before the tick, in the order of section 4.8, tick 0, and the tick advances their timers to 1. -/
theorem test_tick_takes_the_grants_that_are_due :
    (after .tick reads).requests = [.readRequest 0 16, .writeRequest 1 5 (transferBytes 0 (fill 16 0xAA))] ∧
      (after .tick reads).tags[(1 : TagNo)] = .busy (.pqEntry 0) { count := 1, limit := 2000 } := by decide +kernel

/-- R73: so does the grant that a held event makes due, here to the flag that the retired entry held back. -/
theorem test_grant_after_a_held_response_precedes_the_tick :
    (after .refclkCycle (responseWaits.setTbCount 49)).requests = [.writeRequest 0 128 (transferBytes 0 (fill 4 0xF1))] ∧
      (after .refclkCycle (responseWaits.setTbCount 49)).tags[(0 : TagNo)] = .busy (.pqEntry 1) { count := 1, limit := 2000 } := by
  decide +kernel

/-- R162: a tag timer started by a grant that follows a time-out is not advanced by the tick of the time-out. -/
theorem test_grant_after_a_time_out_starts_at_zero :
    (after .refclkCycle (timeOutBeforeStop.setTbCount 49)).tags[(0 : TagNo)] = .lapsed ∧
      (after .refclkCycle (timeOutBeforeStop.setTbCount 49)).tags[(1 : TagNo)] =
        .busy (.pqEntry 1) { count := 0, limit := 2000 } := by decide +kernel

theorem test_writeResponse_fault_voids_the_flag :
    (after (.writeResponse 1 .fault) flagBehindData).pq = [] ∧
      (after (.writeResponse 1 .fault) flagBehindData).nq = [{ window := 2, stream := 4, line := 128, outcome := .voided }] := by
  decide +kernel

theorem test_writeResponse_ok_keeps_the_flag :
    (after (.writeResponse 1 .ok) flagBehindData).pq = [flagEntry 1 4 128 false] ∧
      (after (.writeResponse 1 .ok) flagBehindData).counter .entriesRetired = 1 := by decide +kernel

theorem test_readResponse_late :
    (after (.readResponse 0 (.ok lineOfOffsets)) (served.setTags (served.tags.set 0 .lapsed))).tags[(0 : TagNo)] = .free ∧
      (after (.readResponse 0 (.ok lineOfOffsets)) (served.setTags (served.tags.set 0 .lapsed))).el = [.lateResponse 0] := by
  decide +kernel

theorem test_readResponse_parks :
    ((after (.readResponse 3 (.ok lineOfOffsets)) reads).prt.map PrtEntry.state)[1]? =
      some (.parked (.data lineOfOffsets) { count := 0, limit := 1000 }) := by decide +kernel

theorem test_ready_follows_the_controller :
    (after .readyDeassertion served).ready = false ∧ (after .readyAssertion State.reset).ready = true := by decide +kernel

/-! ### Timers (sections 1.9, 4.8, 8.7) -/

theorem test_tick_advances_the_age :
    (after .tick withOpen).pq.map PqEntry.state = [.opened { count := 3, limit := 8 }] := by decide +kernel

theorem test_refclkCycle_completes_the_tick :
    (after .refclkCycle (withOpen.setTbCount 49)).tbCount = 0 ∧
      (after .refclkCycle (withOpen.setTbCount 49)).pq.map PqEntry.state = [.opened { count := 3, limit := 8 }] := by
  decide +kernel

theorem test_refclkCycle_starts_a_frame :
    (after .refclkCycle csFalls).frameInProgress = .receiving [true, false] { status := .noneExecuted, data := [] } ∧
      (after .refclkCycle csFalls).refclkStopped = true := by decide +kernel

/-- A claim one tick below its limit, the count at 49, and a REFCLK that stops after the cycle. -/
def lastTickBeforeStop : State :=
  ((((served.setPrt [readEntry 0 3 13 true (.parked .fault { count := 999, limit := 1000 })]).setNextId 1).setTbCount
    49).setCycleInputs [{ edges := [], stops := true }])

/-- R60, R162: the claim is freed at the tick that brings it to its limit, and a D-bus reset in the stop finds the record made. -/
theorem test_claim_expires_at_the_last_tick_before_a_stop :
    (after .refclkCycle lastTickBeforeStop).prt = [] ∧
      (after .refclkCycle lastTickBeforeStop).counter .readsUnclaimed = 1 ∧
      errInt (after .refclkCycle lastTickBeforeStop) = true ∧
      (after .dBusReset (after .refclkCycle lastTickBeforeStop)).el = [.readUnclaimed 3 13] := by decide +kernel

/-- R148, R151, R162: behind a held frame end nothing is sampled; the next frame then carries the held frame's reply, its own is taken by the
same cycle, and the frame after it starts with the ID. -/
theorem test_later_frames_wait_for_the_held_one :
    (after .tick frameWaits).misos = [{ bytes := [0x00, 0x00, 0x00, 0x00], bits := [] }] ∧
      (after .tick frameWaits).held = [] ∧ (after .tick frameWaits).portWaiting = [] ∧
      (after .tick frameWaits).frameInProgress = .receiving [false] { status := .ok, data := [0x24, 0x40, 0x01] } := by
  decide +kernel

/-- One tick before its time-out, REFCLK is stopped with a WRITE and then the response waiting. -/
def responseWaitsSecond : State :=
  ((flagBehindData.setTags (served.tags.set 1 (.busy (.pqEntry 0) { count := 1999, limit := 2000 }))).setRefclkStopped true).setHeld
    [.arrival (.write 1 (addr 64 0) (fill 16 0x22)), .arrival (.read 1 (addr 255 0) 1), .arrival (.writeResponse 1 .ok)]

/-- R162: all that waited is taken before the tick, so the response comes in time; the transactions are answered in their order. -/
theorem test_tick_takes_every_held_event_first :
    (after .tick responseWaitsSecond).held = [] ∧ (after .tick responseWaitsSecond).answers = [.accept, .abort] ∧
      (after .tick responseWaitsSecond).counter .entriesRetired = 1 ∧ (after .tick responseWaitsSecond).counter .memTimeouts = 0 ∧
      (after (.memoryTimeOut 1) (after .tick responseWaitsSecond)).tags[(1 : TagNo)].isLapsed = false := by decide +kernel

theorem test_write_waits_while_refclk_is_stopped :
    (after (.write 1 (addr 64 0) (fill 16 0x22)) stopped).pq = [] ∧
      (after .tick (after (.write 1 (addr 64 0) (fill 16 0x22)) stopped)).pq.map PqEntry.line = [64] ∧
      (after .tick (after (.write 1 (addr 64 0) (fill 16 0x22)) stopped)).answers = [.accept] := by decide +kernel

theorem test_combineAgeExpiry_seals :
    ((after (.combineAgeExpiry 1) allDue).pq.map PqEntry.state)[0]? = some .sealed ∧
      (after (.combineAgeExpiry 1) allDue).streams[(1 : StreamNo)].openEntry = none := by decide +kernel

theorem test_claimTimeOut_frees_with_record :
    (after (.claimTimeOut 3 13) allDue).el = [.readUnclaimed 3 13] ∧
      (after (.claimTimeOut 3 13) allDue).prt.map PrtEntry.id = [3, 4] := by decide +kernel

theorem test_lingerTimerExpiry_frees_without_record :
    (after (.lingerTimerExpiry 4 14) allDue).el = [] ∧ (after (.lingerTimerExpiry 4 14) allDue).prt.map PrtEntry.id = [2, 4] := by
  decide +kernel

/-- Section 8.7, step 1, in small: the sixteenth time-out, with two flags behind the entry that fails and room for one notice. -/
def lastTag : State :=
  ((((served.setPq [plainEntry 0 2 64 (.issued 9), flagEntry 1 2 128 false, flagEntry 2 2 128 false]).setTags
    ((Vector.replicate 16 Tag.lapsed).set 9 (.busy (.pqEntry 0) { count := 2000, limit := 2000 }))).setNextId 3).setNq
    (List.replicate 15 { window := 2, stream := 0, line := 0, outcome := .released })).setEl (List.replicate 6 (.malformed 0 0))

theorem test_memoryTimeOut_exhausts_the_tags :
    (after (.memoryTimeOut 9) lastTag).el =
      List.replicate 6 (.malformed 0 0) ++ [.writeTimeout 2 64 9, .tagsExhausted] := by decide +kernel

theorem test_memoryTimeOut_voids_both_flags :
    (after (.memoryTimeOut 9) lastTag).counter .flagsVoided = 2 ∧ (after (.memoryTimeOut 9) lastTag).nq.length = 16 ∧
      (after (.memoryTimeOut 9) lastTag).noticesLost = 1 ∧ (after (.memoryTimeOut 9) lastTag).pq = [] := by decide +kernel

/-! ### Resets (R116, R117, R163, R164) -/

theorem test_dBusReset_orphans_the_fetch :
    (after .dBusReset reads).prt = [] ∧
      (after .dBusReset reads).tags[(3 : TagNo)] = .busy .orphan { count := 9, limit := 2000 } := by decide +kernel

theorem test_releaseOfDrstn : (after .releaseOfDrstn underDrstn).busReset = false := by decide +kernel

theorem test_powerOnReset_empties : (after .powerOnReset lastTag).el = [] ∧ (after .powerOnReset lastTag).opState = .offline := by
  decide +kernel

theorem test_powerOnReset_discards_the_frame :
    (after .powerOnReset midFrame).frameInProgress = .underReset { status := .ok, data := [0x24, 0x40, 0x01] } 12 := by
  decide +kernel

/-- R151, R164: BAD_VALUE is 03 Hex; of the length byte 01 Hex the four leading bits came through, and 0 after them. -/
theorem test_miso_of_an_interrupted_frame :
    (after (.start (framed 0 0 [])) spoiled).misos.map Miso.bytes = [[0x03, 0x00, 0x00, 0x00]] ∧
      (after (.start (framed 0 0 [])) spoiled).reply.status = .frameError ∧
      (after (.start (framed 0 0 [])) (spoiled.setFrameInProgress (.underReset spoiled.reply 4))).misos.map Miso.bytes =
        [[0xF0, 0x00, 0x00, 0x00]] := by decide +kernel

theorem test_releaseOfPorn_takes_drstn : (after (.releaseOfPorn false true) (underPorn.setDrstn true)).busReset = true := by
  decide +kernel

theorem test_releaseOfPorn_short_pulse : exec (.releaseOfPorn false false) underPorn = .fault .resetPulseTooShort := by rfl

/-! ### The management port (sections 9.9, 7.7, 8.7) -/

theorem test_readItem_id :
    (after (.readItem (framed 0 0 [])) State.reset).reply = { status := .ok, data := [0x24, 0x40, 0x01] } ∧
      (after (.readItem (framed 0 0 [])) State.reset).misos.map Miso.bytes = [[0xFF, 0x00, 0x00, 0x00]] := by decide +kernel

theorem test_writeItemTimer_out_of_range :
    let s := after (.readItem (framed 0 0 [])) State.reset
    let t := after (.writeItemTimer .combineAge (framedData [0x01, 0x2C])) s
    t.reply.status = .badValue ∧ t.timers.combineAge = 8 ∧ t.misos.map Miso.bytes = [[0x00, 0x03, 0x24, 0x40, 0x01, 0x00]] := by
  decide +kernel

theorem test_writeItemWindow_taken :
    (after (.writeItemWindow 1
      (framedData [0x01, 0x00, 0x00, 0x00, 0x08, 0x00, 0x00, 0x00, 0x08, 0xFF, 0x01, 0x01])) State.reset).windows[(1 : WindowNo)] =
      { enabled := true, base := 0x800, limit := 0x8FF, writeTreatment := .merge, readTreatment := .line, notify := false } := by
  decide +kernel

theorem test_writeItemWindow_short_frame :
    (after (.writeItemWindow 2 ⟨0x0C :: fill 11 0x01, 0⟩) State.reset).reply.status = .frameError ∧
      (after (.writeItemWindow 2 ⟨0x0C :: fill 11 0x01, 0⟩) State.reset).windows[(2 : WindowNo)].enabled = false := by
  decide +kernel

theorem test_start_goes_online : (after (.start (framed 0 0 [])) State.reset).opState = .online := by decide +kernel

theorem test_takeNotice_empty : (after (.takeNotice (framed 0 0 [])) State.reset).reply.status = .empty := by decide +kernel

/-- Table 9-8, by hand: window 15, stream 7, the last line, FAILED. -/
theorem test_takeNotice_layout :
    (after (.takeNotice (framed 0 0 []))
      (served.setNq [{ window := 15, stream := 7, line := 0x3FFFFFFFE, outcome := .failed }])).reply.data =
      [0x0F, 0x07, 0x03, 0xFF, 0xFF, 0xFF, 0xFE, 0x01] := by decide +kernel

theorem test_nop_leaves_none : (after (.nop (commandFrame .nop (framed 0 0 []))) served).reply.status = .noneExecuted := by
  decide +kernel

theorem test_writeItem_to_counter : (after (.writeItem (framed 0 0x40 [0, 0, 0, 0])) served).reply.status = .badItem := by
  decide +kernel

theorem test_hold_seals_and_holds :
    (after (.hold (framed 0 0 [0x02])) withOpen).pq.map PqEntry.isSealed = [true] ∧
      (after (.hold (framed 0 0 [0x02])) withOpen).streams[(1 : StreamNo)].hold = true := by decide +kernel

theorem test_writeItemOrderMode_refused_unheld :
    (after (.writeItemOrderMode 3 (framedData [0x01])) served).reply.status = .refused := by decide +kernel

theorem test_writeItemOrderMode_taken :
    (after (.writeItemOrderMode 3 (framedData [0x01])) held3).streams[(3 : StreamNo)].orderMode = .strict := by decide +kernel

theorem test_unhold : (after (.unhold (framed 0 0 [0x08])) held3).streams[(3 : StreamNo)].hold = false := by decide +kernel

theorem test_clearFault : (after (.clearFault (framed 0 0 [0x10])) faulty4).streams[(4 : StreamNo)].faultMark = false := by
  decide +kernel

theorem test_stop_of_an_idle_part : (after (.stop (framed 0 0 [])) served).opState = .offline := by decide +kernel

theorem test_clear_offline :
    (after (.clear (framed 0 0 [])) (lastTag.setOpState .offline)).nq = [] ∧
      (after (.clear (framed 0 0 [])) served).reply.status = .refused := by decide +kernel

theorem test_takeErrorRecord_layout :
    (after (.takeErrorRecordForm (framed 0 0 [])) (served.setEl [.lateResponse 4])).reply.data =
      [0x05, 0xFF, 0xFF, 0xFF, 0xFF, 0xFF, 0xFF, 0x04, 0xFF, 0x00] := by decide +kernel

theorem test_takeErrorLostCount :
    (after (.takeErrorLostCountForm (framedData [])) (served.setErrorsLost 1)).reply.data = [0x01] ∧
      (after (.takeErrorLostCountForm (framedData [])) (served.setErrorsLost 1)).errorsLost = 0 := by decide +kernel

theorem test_freeLapsed :
    (after (.freeLapsed (framed 0 0 [])) lastTag).tags[(0 : TagNo)] = .free ∧
      (after (.freeLapsed (framed 0 0 [])) lastTag).tags[(9 : TagNo)].isBusy = true := by decide +kernel

/-! ### Witnesses: a state and operands that meet the hypotheses of each statement

Each theorem carries the name of the statement, and of the clause where there are several. -/

theorem inv_served : Inv served := by constructor <;> decide +kernel

theorem inv_queueOf_31 : Inv (queueOf 31) := by constructor <;> decide +kernel

theorem inv_queueOf_32 : Inv (queueOf 32) := by constructor <;> decide +kernel

theorem inv_queueOf_24 : Inv (queueOf 24) := by constructor <;> decide +kernel

theorem inv_withOpen : Inv withOpen := by constructor <;> decide +kernel

theorem inv_reads : Inv reads := by constructor <;> decide +kernel

theorem inv_fullTable : Inv (fullTable true) := by constructor <;> decide +kernel

theorem inv_flagBehindData : Inv flagBehindData := by constructor <;> decide +kernel

theorem inv_allDue : Inv allDue := by constructor <;> decide +kernel

theorem inv_faulty4 : Inv faulty4 := by constructor <;> decide +kernel

theorem inv_lastTickBeforeStop : Inv lastTickBeforeStop := by constructor <;> decide +kernel

theorem inv_waiting : Inv waiting := by constructor <;> decide +kernel

theorem inv_responseWaits : Inv responseWaits := by constructor <;> decide +kernel

theorem inv_frameWaits : Inv frameWaits := by constructor <;> decide +kernel

theorem inv_earlyResponse : Inv earlyResponse := by constructor <;> decide +kernel

theorem inv_waiting_spoiled : Inv (waiting.setHeld [.spoiledFrame]) := by constructor <;> decide +kernel

theorem witness_StepTakesTheFrontCommand :
    (served.setPending [.grant]).pending = [.grant] ∧ State.reset.pending = [] := ⟨rfl, rfl⟩

theorem witness_OnlyAShortResetPulseStops_stop :
    exec (.releaseOfPorn true false) underPorn = .fault .resetPulseTooShort ∧ underPorn.por = true := ⟨rfl, rfl⟩

theorem witness_CountersGoUpByOneAndSaturate :
    (served.setCounters (Vector.replicate 19 0xFFFFFFFE)).counter .aborts < 0xFFFFFFFF ∧
      (served.setCounters (Vector.replicate 19 0xFFFFFFFF)).counter .aborts = 0xFFFFFFFF := by decide +kernel

theorem witness_ReportsJoinOrAreLost :
    (served.setEl (List.replicate 7 .tagsExhausted)).el.length < 8 ∧
      8 ≤ (served.setEl (List.replicate 8 .tagsExhausted)).el.length ∧ lastTag.nq.length < 16 ∧
      16 ≤ (after (.memoryTimeOut 9) lastTag).nq.length ∧ (flagEntry 0 4 128 true).kind = .release 2 true true ∧
      ({ flagEntry 0 4 128 true with kind := .release 2 false true } : PqEntry).kind = .release 2 false true ∧
      (plainEntry 0 4 128 .sealed).kind = .plain false := by decide +kernel

theorem witness_MergesAndDeliveriesGoOffsetByOffset : (63 : Offset).toNat + 1 ≤ 64 ∧ (0 : Offset).toNat + 64 ≤ 64 := by decide

/-- A marked flag that nothing holds back, and a marked flag of its stream behind it. -/
def marked : State := (served.setPq [flagEntry 0 4 128 true, flagEntry 1 4 129 true, flagEntry 2 5 129 true]).setNextId 3

theorem witness_MarkedFlagsAreVoidedInOrder :
    EntriesDistinct marked ∧ marked.counter .flagsVoided ≤ 0xFFFFFFFF ∧ (voidPass marked).pq = [] := by decide +kernel

/-- `marked` with room for one notice in the NQ, NOTICES_LOST one below its maximum, and a read that waits for two of the flags and for
an entry that stays. -/
def markedNearlyFull : State :=
  ((((marked.setPq (plainEntry 3 6 64 .sealed :: marked.pq)).setNextId 5).setPrt [readEntry 4 0 129 true (.waiting [1, 2, 3])]).setNq
    (List.replicate 15 { window := 2, stream := 0, line := 0, outcome := .released })).setNoticesLost 254

/-- R38, R135: the first notice joins in order, and the others are lost and counted up to the maximum. -/
theorem witness_MarkedFlagsAreVoidedInOrder_fills_part_way :
    EntriesDistinct markedNearlyFull ∧ markedNearlyFull.counter .flagsVoided ≤ 0xFFFFFFFF ∧
      (voidPass markedNearlyFull).nq = markedNearlyFull.nq ++ [{ window := 2, stream := 4, line := 128, outcome := .voided }] ∧
      (voidPass markedNearlyFull).noticesLost = 255 ∧ (voidPass markedNearlyFull).counter .flagsVoided = 3 ∧
      (voidPass markedNearlyFull).prt = [readEntry 4 0 129 true (.waiting [3])] := by decide +kernel

theorem witness_MalformedTransactionsAbort :
    takesTransactions served ∧ 64 < (offsetOf (addr 0 63)).toNat + (fill 2 0).length ∧
      64 < (offsetOf (addr 0 0)).toNat + 65 := by decide +kernel

theorem witness_DecodeAbortsUnmappedAndRefused_unmapped :
    takesTransactions served ∧ fill 64 0 ≠ [] ∧ (offsetOf (addr 256 0)).toNat + (fill 64 0).length ≤ 64 ∧
      ∀ v : WindowNo, windowContains served.windows[v] (pageOf (addr 256 0)) = false := by decide +kernel

theorem witness_DecodeAbortsUnmappedAndRefused_refused :
    decodesTo served (addr 255 63) 3 ∧ served.windows[(3 : WindowNo)].writeTreatment = .refuse ∧
      served.windows[(3 : WindowNo)].readTreatment = .refuse ∧ (offsetOf (addr 255 63)).toNat + (fill 1 0).length ≤ 64 := by
  decide +kernel

theorem witness_StateCheckComesBeforeHoldCheck_offline :
    takesTransactions (served.setOpState .offline) ∧ decodesTo (served.setOpState .offline) (addr 64 0) 1 ∧
      (served.setOpState .offline).windows[(1 : WindowNo)].writeTreatment ≠ .refuse ∧
      (served.setOpState .offline).windows[(1 : WindowNo)].readTreatment ≠ .refuse ∧
      (served.setOpState .offline).opState ≠ .online := by decide +kernel

theorem witness_StateCheckComesBeforeHoldCheck_held :
    takesTransactions held3 ∧ decodesTo held3 (addr 64 0) 1 ∧ held3.opState = .online ∧
      held3.streams[(3 : StreamNo)].hold = true ∧
      ∀ p ∈ held3.prt, ¬(p.stream = 3 ∧ p.line = lineOf (addr 64 0) ∧
        (p.readAhead = true ∨ (p.originOffset = offsetOf (addr 64 0) ∧ p.originCount = 16))) := by decide +kernel

theorem witness_EachTransactionCountsOnce :
    takesTransactions served ∧
      exec (.write 1 (addr 64 0) (fill 16 0)) served = .next (after (.write 1 (addr 64 0) (fill 16 0)) served) ∧
      exec (.read 1 (addr 64 0) 16) served = .next (after (.read 1 (addr 64 0) 16) served) := ⟨by decide, rfl, rfl⟩

theorem witness_MergeWriteJoinsTheOpenEntry :
    Inv withOpen ∧ writeReaches withOpen 1 (addr 0 32) (fill 32 0x22) 0 ∧
      withOpen.windows[(0 : WindowNo)].writeTreatment = .merge ∧
      ∃ e ∈ withOpen.pq, e.isOpen = true ∧ e.stream = 1 ∧ e.line = lineOf (addr 0 32) ∧
        ∀ k : Fin 64, (mergeBytes e.bytes (transferBytes (offsetOf (addr 0 32)) (fill 32 0x22)))[k] ≠ none :=
  ⟨inv_withOpen, by decide +kernel⟩

theorem witness_PostWriteAppendsASealedEntry :
    Inv (queueOf 31) ∧ writeReaches (queueOf 31) 1 (addr 64 0) (fill 64 0) 1 ∧
      (queueOf 31).windows[(1 : WindowNo)].writeTreatment = .post ∧ (queueOf 31).pq.length < 32 :=
  ⟨inv_queueOf_31, by decide +kernel⟩

theorem witness_MergeWriteOpensAnEntry :
    Inv withOpen ∧ writeReaches withOpen 1 (addr 1 0) (fill 64 0) 0 ∧ writeReaches withOpen 3 (addr 0 0) (fill 1 0) 0 ∧
      withOpen.windows[(0 : WindowNo)].writeTreatment = .merge ∧ withOpen.pq.length < 32 ∧
      (∀ e ∈ withOpen.pq, e.isOpen = true → e.stream = 1 → e.line ≠ lineOf (addr 1 0)) ∧
      ∀ e ∈ withOpen.pq, e.isOpen = true → e.stream = 3 → e.line ≠ lineOf (addr 0 0) :=
  ⟨inv_withOpen, by decide +kernel⟩

theorem witness_ReleaseWriteAppendsAFlag_appended :
    Inv (queueOf 31) ∧ writeReaches (queueOf 31) 1 (addr 128 0) (fill 4 0) 2 ∧
      (queueOf 31).windows[(2 : WindowNo)].writeTreatment = .release ∧ (queueOf 31).pq.length < 32 ∧
      (queueOf 31).streams[(1 : StreamNo)].faultMark = false := ⟨inv_queueOf_31, by decide +kernel⟩

theorem witness_ReleaseWriteAppendsAFlag_voided :
    Inv faulty4 ∧ writeReaches faulty4 4 (addr 191 60) (fill 4 0) 2 ∧
      faulty4.windows[(2 : WindowNo)].writeTreatment = .release ∧ faulty4.streams[(4 : StreamNo)].faultMark = true ∧
      ∀ e ∈ faulty4.pq, e.stream ≠ 4 ∧ e.line ≠ lineOf (addr 191 60) := ⟨inv_faulty4, by decide +kernel⟩

theorem witness_FullQueueRefusesANewEntry :
    Inv (queueOf 32) ∧ writeReaches (queueOf 32) 1 (addr 0 0) (fill 1 0) 0 ∧ (queueOf 32).pq.length = 32 ∧
      (queueOf 32).windows[(0 : WindowNo)].writeTreatment = .merge ∧
      ∀ e ∈ (queueOf 32).pq, e.isOpen = true → e.stream = 1 → e.line ≠ lineOf (addr 0 0) :=
  ⟨inv_queueOf_32, by decide +kernel⟩

theorem witness_MatchedReadsAnswerByTheEntrysState_waiting :
    Inv reads ∧ readDecodes reads (addr 5 0) 64 0 ∧
      ∃ p ∈ reads.prt, p.stream = 0 ∧ p.line = lineOf (addr 5 0) ∧
        (p.readAhead = true ∨ (p.originOffset = offsetOf (addr 5 0) ∧ p.originCount = 64)) ∧ p.state = .waiting [0] :=
  ⟨inv_reads, by decide +kernel⟩

theorem witness_MatchedReadsAnswerByTheEntrysState_fetching :
    readDecodes reads (addr 11 63) 1 0 ∧
      ∃ p ∈ reads.prt, p.stream = 1 ∧ p.line = lineOf (addr 11 63) ∧
        (p.readAhead = true ∨ (p.originOffset = offsetOf (addr 11 63) ∧ p.originCount = 1)) ∧ p.state = .fetching 3 := by
  decide +kernel

theorem witness_MatchedReadsAnswerByTheEntrysState_fault :
    readDecodes reads (addr 12 0) 1 0 ∧
      ∃ p ∈ reads.prt, p.stream = 2 ∧ p.line = lineOf (addr 12 0) ∧
        (p.readAhead = true ∨ (p.originOffset = offsetOf (addr 12 0) ∧ p.originCount = 1)) ∧
        p.state = .parked .fault { count := 5, limit := 1000 } := by decide +kernel

theorem witness_MatchedReadsAnswerByTheEntrysState_lingering :
    readDecodes reads (addr 15 63) 1 0 ∧
      ∃ p ∈ reads.prt, p.stream = 5 ∧ p.line = lineOf (addr 15 63) ∧
        (p.readAhead = true ∨ (p.originOffset = offsetOf (addr 15 63) ∧ p.originCount = 1)) ∧
        p.state = .lingering lineOfOffsets { count := 7, limit := 50 } := by decide +kernel

theorem witness_ClaimDeliversAndLingersOrFrees_lingers :
    Inv reads ∧ readDecodes reads (addr 13 0) 64 0 ∧ reads.opState = .online ∧
      ∃ p ∈ reads.prt, p.stream = 3 ∧ p.line = lineOf (addr 13 0) ∧
        (p.readAhead = true ∨ (p.originOffset = offsetOf (addr 13 0) ∧ p.originCount = 64)) ∧ p.readAhead = true ∧
        p.state = .parked (.data lineOfOffsets) { count := 0, limit := 1000 } := ⟨inv_reads, by decide +kernel⟩

theorem witness_ClaimDeliversAndLingersOrFrees_frees :
    Inv reads ∧ readDecodes reads (addr 14 0) 16 0 ∧
      ∃ p ∈ reads.prt, p.stream = 4 ∧ p.line = lineOf (addr 14 0) ∧
        (p.readAhead = true ∨ (p.originOffset = offsetOf (addr 14 0) ∧ p.originCount = 16)) ∧ p.readAhead = false ∧
        p.state = .parked (.data lineOfOffsets) { count := 0, limit := 1000 } := ⟨inv_reads, by decide +kernel⟩

theorem witness_ParkRequestFindsLineBusyOrTableFull_busy :
    readDecodes reads (addr 14 8) 8 0 ∧ reads.opState = .online ∧ reads.streams[(4 : StreamNo)].hold = false ∧
      (∀ p ∈ reads.prt, ¬(p.stream = 4 ∧ p.line = lineOf (addr 14 8) ∧
        (p.readAhead = true ∨ (p.originOffset = offsetOf (addr 14 8) ∧ p.originCount = 8)))) ∧
      ∃ p ∈ reads.prt, p.stream = 4 ∧ p.line = lineOf (addr 14 8) := by decide +kernel

theorem witness_ParkRequestFindsLineBusyOrTableFull_full :
    readDecodes (fullTable false) (addr 63 0) 8 0 ∧ (fullTable false).opState = .online ∧
      (∀ p ∈ (fullTable false).prt, ¬(p.stream = 4 ∧ p.line = lineOf (addr 63 0))) ∧ 8 ≤ (fullTable false).prt.length ∧
      ∀ p ∈ (fullTable false).prt, p.isLingering = false := by decide +kernel

theorem witness_ReadParksBehindItsHazards_room :
    Inv reads ∧ readDecodes reads (addr 5 0) 64 0 ∧ reads.opState = .online ∧ reads.streams[(7 : StreamNo)].hold = false ∧
      (∀ p ∈ reads.prt, ¬(p.stream = 7 ∧ p.line = lineOf (addr 5 0))) ∧ reads.prt.length < 8 :=
  ⟨inv_reads, by decide +kernel⟩

theorem witness_ReadParksBehindItsHazards_eviction :
    Inv (fullTable true) ∧ readDecodes (fullTable true) (addr 63 0) 64 0 ∧ (fullTable true).prt.length = 8 ∧
      (∀ p ∈ (fullTable true).prt, ¬(p.stream = 7 ∧ p.line = lineOf (addr 63 0))) ∧
      (fullTable true).prt = (fullTable true).prt.take 2 ++
        readEntry 2 2 2 true (.lingering lineOfOffsets { count := 0, limit := 50 }) :: (fullTable true).prt.drop 3 ∧
      ∀ q ∈ (fullTable true).prt.take 2, q.isLingering = false := ⟨inv_fullTable, by decide +kernel⟩

/-- A STRICT stream 4 with an ISSUED RELEASE entry. -/
def strictFlag : State :=
  (((served.setStreams (served.streams.set 4 { served.streams[(4 : StreamNo)] with orderMode := .strict })).setPq
    [{ flagEntry 0 4 128 false with state := .issued 1 }]).setTags
    (served.tags.set 1 (.busy (.pqEntry 0) { count := 0, limit := 2000 }))).setNextId 1

theorem inv_strictFlag : Inv strictFlag := by constructor <;> decide +kernel

theorem witness_IssueFollowsTheOrderRules :
    EntriesDistinct flagBehindData ∧
      flagBehindData.pq = [plainEntry 0 4 64 (.issued 1)] ++ flagEntry 1 4 128 false :: [] ∧
      Inv strictFlag ∧ (∃ e ∈ strictFlag.pq, e.state = .issued 1) ∧
      strictFlag.streams[(4 : StreamNo)].orderMode = .strict ∧
      strictFlag.pq = [] ++ { flagEntry 0 4 128 false with state := .issued 1 } :: [] :=
  ⟨by decide +kernel, rfl, inv_strictFlag, by decide +kernel, by decide +kernel, rfl⟩

theorem witness_GrantSendsTheOldestCandidate_pressure :
    Inv (queueOf 24) ∧ (queueOf 24).por = false ∧ (queueOf 24).ready = true ∧
      (queueOf 24).tags[(0 : TagNo)] = .free ∧ (∀ u : TagNo, u < 0 → (queueOf 24).tags[u] ≠ .free) ∧
      (∃ e ∈ (queueOf 24).pq, issuable (queueOf 24).streams (queueOf 24).pq e = true ∧ e.isVoidMarked = false ∧
        ∀ x ∈ earlierThan (queueOf 24).pq e.id,
          ¬(issuable (queueOf 24).streams (queueOf 24).pq x = true ∧ x.isVoidMarked = false)) ∧
      24 ≤ (queueOf 24).pq.length := ⟨inv_queueOf_24, by decide +kernel⟩

theorem witness_GrantSendsTheOldestCandidate_turn :
    reads.tags[(0 : TagNo)] = .free ∧ issuable reads.streams reads.pq (plainEntry 0 7 5 .sealed) = true ∧
      (reads.setLastGranted .read).lastGranted = .read := by decide +kernel

theorem witness_GrantSendsTheOldestCandidate_read :
    Inv reads ∧ reads.por = false ∧ reads.ready = true ∧ reads.tags[(0 : TagNo)] = .free ∧
      reads.prt = reads.prt.take 6 ++ readEntry 16 6 16 true (.waiting []) :: [] ∧
      (∀ q ∈ reads.prt.take 6, q.isCandidate = false) ∧ reads.pq.length < 24 ∧ reads.lastGranted = .write :=
  ⟨inv_reads, by decide +kernel⟩

theorem witness_GrantIsMadeExactlyWhenDue :
    grantDue reads = true ∧ grantDue State.reset = false ∧ exec .tick reads = .next (after .tick reads) ∧
      exec .refclkCycle reads = .next (after .refclkCycle reads) := ⟨by decide +kernel, by decide +kernel, rfl, rfl⟩

theorem witness_WriteResponseRetiresOrFailsTheEntry :
    Inv flagBehindData ∧ takesResponses flagBehindData ∧ plainEntry 0 4 64 (.issued 1) ∈ flagBehindData.pq :=
  ⟨inv_flagBehindData, by decide +kernel⟩

/-- `flagBehindData` with a read of stream 0 that waits for the ISSUED entry, and one of stream 1 that waits for the flag. -/
def readsBehindData : State :=
  (flagBehindData.setPrt [readEntry 2 0 64 true (.waiting [0]), readEntry 3 1 128 true (.waiting [1])]).setNextId 4

theorem inv_readsBehindData : Inv readsBehindData := by constructor <;> decide +kernel

/-- R20, R57: the entry that leaves is no hazard any more, and the other hazard stays. -/
theorem witness_WriteResponseRetiresOrFailsTheEntry_hazards :
    Inv readsBehindData ∧ takesResponses readsBehindData ∧ plainEntry 0 4 64 (.issued 1) ∈ readsBehindData.pq ∧
      (after (.writeResponse 1 .ok) readsBehindData).prt.map PrtEntry.state = [.waiting [], .waiting [1]] :=
  ⟨inv_readsBehindData, by decide +kernel⟩

theorem witness_ReadResponseParksTheFetchedEntry :
    Inv reads ∧ takesResponses reads ∧ ∃ p ∈ reads.prt, p.state = .fetching 3 := ⟨inv_reads, by decide +kernel⟩

theorem witness_StrayResponsesEndNoRequest :
    takesResponses allDue ∧ allDue.tags[(2 : TagNo)] = .busy .orphan { count := 2000, limit := 2000 } ∧
      lastTag.tags[(15 : TagNo)] = .lapsed ∧ served.tags[(15 : TagNo)] = .free ∧
      reads.tags[(3 : TagNo)] = .busy (.prtEntry 11) { count := 9, limit := 2000 } ∧
      flagBehindData.tags[(1 : TagNo)] = .busy (.pqEntry 0) { count := 0, limit := 2000 } := by decide +kernel

theorem witness_TickAdvancesEveryRunningTimer :
    reads.por = false ∧ nothingDue (reads.setReady false) ∧ grantDue (reads.setReady false) = false ∧ reads.held = [] ∧
      reads.cycleInputs = [] ∧ nothingDue csFalls ∧ grantDue csFalls = false ∧
      csFalls.cycleInputs = { edges := [.csFall, .sck true, .sck false], stops := true } :: [] ∧
      (reads.setTbCount 49).tbCount = 49 ∧ (reads.setTbCount 48).tbCount ≠ 49 := by
  decide +kernel

theorem witness_TickAdvancesEveryRunningTimer_stops :
    Inv lastTickBeforeStop ∧ lastTickBeforeStop.por = false ∧ nothingDue lastTickBeforeStop ∧
      grantDue lastTickBeforeStop = false ∧ lastTickBeforeStop.held = [] ∧
      lastTickBeforeStop.cycleInputs = { edges := [], stops := true } :: [] ∧ lastTickBeforeStop.tbCount = 49 :=
  ⟨inv_lastTickBeforeStop, by decide +kernel⟩

theorem witness_DueExpiriesAreTakenByTheNextCycle_stops :
    exec .refclkCycle lastTickBeforeStop = .next (after .refclkCycle lastTickBeforeStop) ∧
      (after .refclkCycle lastTickBeforeStop).refclkStopped = true := ⟨rfl, by decide +kernel⟩

theorem witness_DueExpiriesAreTakenByTheNextCycle :
    Inv allDue ∧ allDue.por = false ∧ exec .tick allDue = .next (after .tick allDue) ∧ (∃ e ∈ allDue.pq, e.ageDue = true) ∧
      (∃ p ∈ allDue.prt, p.claimDue = true) ∧ (∃ p ∈ allDue.prt, p.lingerDue = true) ∧
      allDue.tags[(0 : TagNo)].due = true := by
  refine ⟨inv_allDue, by decide, rfl, ?_⟩
  decide +kernel

theorem witness_EntryTimersSealOrFreeTheirEntries :
    Inv allDue ∧ timersCanExpire allDue ∧ (∃ e ∈ allDue.pq, e.ageDue = true) ∧ (∃ p ∈ allDue.prt, p.claimDue = true) ∧
      ∃ p ∈ allDue.prt, p.lingerDue = true := ⟨inv_allDue, by decide +kernel⟩

theorem witness_MemoryTimeOutLapsesTheTag :
    Inv allDue ∧ allDue.tags[(0 : TagNo)] = .busy (.pqEntry 1) { count := 2000, limit := 2000 } ∧
      (∃ e ∈ allDue.pq, e.id = 1) ∧ allDue.tags[(1 : TagNo)] = .busy (.prtEntry 4) { count := 2000, limit := 2000 } ∧
      timersCanExpire allDue ∧ (∃ p ∈ allDue.prt, p.id = 4) ∧ allDue.tags[(2 : TagNo)] = .busy .orphan { count := 2000, limit := 2000 } :=
  ⟨inv_allDue, by decide +kernel⟩

theorem witness_ArrivalsWaitWhileRefclkIsStopped_stopped :
    stopped.por = false ∧ stopped.busReset = false ∧ stopped.refclkStopped = true ∧ stopped.held = [] ∧
      frameOfInstr (.start (framed 0 0 [])) = some ⟨[0x10, 0, 0, 0], 0⟩ ∧ stopped.frameInProgress.spoiled = false ∧
      (spoiled.setRefclkStopped true).frameInProgress.spoiled = true := by decide +kernel

theorem witness_ArrivalsWaitWhileRefclkIsStopped_behind :
    waiting.por = false ∧ waiting.refclkStopped = true ∧ ∃ h ∈ waiting.held, h.port = some .management := by decide +kernel

theorem witness_HeldEventsAreTakenInOrder :
    Inv waiting ∧ waiting.por = false ∧ nothingDue waiting ∧ grantDue waiting = false ∧
      waiting.held = .arrival (.write 1 (addr 64 0) (fill 16 0x22)) :: waiting.held.tail ∧
      Inv (waiting.setHeld [.spoiledFrame]) ∧ (waiting.setHeld [.spoiledFrame]).held = .spoiledFrame :: [] :=
  ⟨inv_waiting, rfl, by decide +kernel, by decide +kernel, rfl, inv_waiting_spoiled, rfl⟩

theorem witness_HeldEventsAreTakenInOrder_response :
    Inv responseWaits ∧ responseWaits.por = false ∧ nothingDue responseWaits ∧ grantDue responseWaits = false ∧
      responseWaits.held = .arrival (.writeResponse 1 .ok) :: [] ∧ grantDue (after (.writeResponse 1 .ok) flagBehindData) = true :=
  ⟨inv_responseWaits, rfl, by decide +kernel, by decide +kernel, rfl, by decide +kernel⟩

theorem witness_HeldEventsAreTakenInOrder_frame :
    Inv frameWaits ∧ frameWaits.por = false ∧ nothingDue frameWaits ∧ grantDue frameWaits = false ∧
      frameWaits.held = .arrival (.freeLapsed (framed 0 0 [])) :: [] ∧
      (after .tick frameWaits).reply = { status := .ok, data := [0x24, 0x40, 0x01] } ∧
      (after .tick frameWaits).requests = [.writeRequest 0 64 (transferBytes 0 (fill 16 0xAA))] :=
  ⟨inv_frameWaits, rfl, by decide +kernel, by decide +kernel, rfl, by decide +kernel⟩

theorem witness_ReleaseOfPornStartsThePart : underPorn.por = true ∧ served.por = false := by decide

theorem witness_NothingIsTakenUnderPorn :
    underPorn.por = true ∧ exec .tick underPorn = .next (after .tick underPorn) ∧
      exec (.write 0 0 (fill 1 0)) underPorn = .next (after (.write 0 0 (fill 1 0)) underPorn) ∧
      exec .grant underPorn = .next (after .grant underPorn) := ⟨rfl, rfl, rfl, rfl⟩

theorem witness_NothingIsTakenUnderPorn_frame :
    frameOfInstr (.start (framed 0 0 [])) = some ⟨[0x10, 0, 0, 0], 0⟩ ∧ underPorn.frameInProgress = .csHigh ∧
      (after .refclkCycle (underPorn.setCycleInputs csFalls.cycleInputs)).frameInProgress = .underReset underPorn.reply 0 := by
  decide +kernel

theorem witness_DBusResetSealsFreesAndOrphans :
    served.por = false ∧ served.drstn = false ∧ underDrstn.por = false ∧ underDrstn.drstn = true ∧
      underDrstn.busReset = true ∧ underPorn.por = true := by decide

theorem witness_WindowsAndHoldsOverTheResets :
    portReady State.reset ∧ State.reset.opState = .offline ∧ (fill 12 0).length ≤ 12 := by decide

theorem witness_BrokenFramesExecuteNothing_short :
    frameOfInstr (.start ⟨[0, 0], 0⟩) = some ⟨[0x10, 0, 0], 0⟩ ∧ portReady served ∧ portReady midFrame ∧
      ([0x10, 0, 0] : List Byte).length < 4 := by decide +kernel

theorem witness_BrokenFramesExecuteNothing_forms :
    frameOfInstr (.start ⟨[0, 0, 0], 7⟩) = some ⟨[0x10, 0, 0, 0], 7⟩ ∧ (7 : Fin 8) ≠ 0 ∧
      frameOfInstr (.start ⟨[0, 0, 13], 0⟩) = some ⟨0x10 :: 0 :: 0 :: 13 :: [], 0⟩ ∧ 12 < (13 : Byte).toNat ∧
      frameOfInstr (.start ⟨[0, 0, 1], 0⟩) = some ⟨0x10 :: 0 :: 0 :: 1 :: [], 0⟩ ∧ ([] : List Byte).length ≠ (1 : Byte).toNat ∧
      commandOfCode 0x03 = none ∧ commandOfCode 0x20 = some .hold ∧ (0 : Byte) ≠ 1 := by decide +kernel

theorem witness_BrokenFramesExecuteNothing_spoiled :
    spoiled.por = false ∧ spoiled.frameInProgress.spoiled = true ∧ spoiled.refclkStopped = false := by decide

theorem witness_TheFrameInProgressIsShiftedInAndLostToPorn :
    csFalls.cycleInputs = { edges := .csFall :: [true, false].map PortEdge.sck, stops := true } :: [] ∧
      csFalls.frameInProgress = .csHigh ∧
      midFrame.frameInProgress =
        .receiving (List.replicate 12 true) { status := .ok, data := [0x24, 0x40, 0x01] } ∧
      spoiled.frameInProgress = .underReset { status := .badValue, data := [0xFF] } 12 ∧ csFalls.held = [] ∧
      csFalls.portWaiting = [] ∧ spoiled.held = [] ∧ midFrame.portWaiting = [] ∧
      frameOfInstr (.nop ⟨[0, 0], 7⟩) = some ⟨[0, 0], 7⟩ := by decide +kernel

/-- A frame end waits for REFCLK, and at the cycle that takes it CS falls again. -/
def frameWaitsAndCsFalls : State := (frameWaits.setPortWaiting []).setCycleInputs csFalls.cycleInputs

theorem witness_TheFrameInProgressIsShiftedInAndLostToPorn_waits :
    Inv frameWaitsAndCsFalls ∧ (∃ h ∈ frameWaitsAndCsFalls.held, h.port = some .management) ∧
      frameWaitsAndCsFalls.portWaiting = [] ∧
      frameWaitsAndCsFalls.cycleInputs = { edges := .csFall :: [true, false].map PortEdge.sck, stops := true } :: [] ∧
      frameWaits.portWaiting = frameWaits.portWaiting.take 3 ++ .edge .csFall :: [false].map (fun b => PortEvent.edge (.sck b)) ∧
      (frameWaits.portWaiting.take 3) = frameWaits.portWaiting.take 2 ++ [.frameEnd (.readItem (framed 0 0 []))] := by
  refine ⟨?_, by decide +kernel⟩
  constructor <;> decide +kernel

theorem witness_HeldEventsAreTakenInOrder_resumes :
    Inv (frameWaits.setPortWaiting [.edge .csFall, .edge (.sck true)]) ∧
      frameWaits.portWaiting = [PortEdge.csFall, .sck true].map PortEvent.edge ++
        .frameEnd (.readItem (framed 0 0 [])) :: [.edge .csFall, .edge (.sck false)] ∧
      frameOfInstr (.readItem (framed 0 0 [])) = some ⟨[0x01, 0, 0, 0], 0⟩ := by
  refine ⟨?_, by decide +kernel⟩
  constructor <;> decide +kernel

theorem witness_portReady : portReady served ∧ portReady midFrame ∧ portReady State.reset ∧ ([] : List Byte).length ≤ 12 := by decide

theorem witness_ItemCommandsAnswerByTheItemMap :
    portReady served ∧ itemOfNumber (beNat [0x00, 0x52]) = some (.counter 18) ∧ itemOfNumber (beNat [0x00, 0x53]) = none ∧
      writeItemWellFormed (framed 0x00 0x52 (fill 12 0)) = true := by decide +kernel

theorem witness_ItemsShowTheStateTheyName :
    portReady served ∧ (0x00 : Byte).toNat * 256 + (0x52 : Byte).toNat = 0x0040 + 18 ∧
      (0x00 : Byte).toNat * 256 + (0x2F : Byte).toNat = 0x0020 + (15 : WindowNo).val ∧
      (0x00 : Byte).toNat * 256 + (0x37 : Byte).toNat = 0x0030 + (7 : StreamNo).val ∧
      (0x01 : Byte).toNat * 256 + (0x00 : Byte).toNat = 0x0100 ∧
      ∀ w : WindowNo, served.windows[w].base.toNat ≤ served.windows[w].limit.toNat := by decide +kernel

/-- Table 9-4 and section 9.5: TAG_COUNTS shows free, busy, lapsed, and window 0 its record. -/
theorem test_readItem_tag_counts :
    (after (.readItem (framed 0x00 0x04 [])) lastTag).reply.data = [0, 1, 15] ∧
      (after (.readItem (framed 0x00 0x22 [])) served).reply.data = [1, 1, 0, 0, 0, 2, 0, 0, 0, 2, 2, 0] := by decide +kernel

theorem witness_WindowWriteReplacesTheWholeRecord :
    (onePage 0xFFFFFFF .post .line true).base.toNat ≤ (onePage 0xFFFFFFF .post .line true).limit.toNat ∧
      (windowBytes (onePage 0xFFFFFFF .post .line true)).length = 12 ∧ (fill 11 0).length ≠ 12 := by decide +kernel

/-- Twelve bytes whose enabled byte is neither 00 Hex nor 01 Hex are no record. -/
theorem witness_WindowWriteReplacesTheWholeRecord_badValue :
    (fill 12 2).length = 12 ∧ ∀ r : Window, r.base.toNat ≤ r.limit.toNat → fill 12 2 ≠ windowBytes r := by
  refine ⟨rfl, fun r _ h => ?_⟩
  have first := congrArg List.head? h
  cases r with
  | mk enabled base limit wt rt notify => cases enabled <;> simp [fill, windowBytes, boolCode] at first

theorem witness_TimerWriteTakesValuesInRange :
    ((0x0F : Byte).toNat * 256 + (0xFF : Byte).toNat ≤ 4095) ∧ ¬((0x10 : Byte).toNat * 256 + (0x00 : Byte).toNat ≤ 4095) ∧
      (fill 1 0).length ≠ 2 := by decide

theorem witness_OrderModeChangesOnlyWhenHeldAndEmpty :
    portReady held3 ∧ (2 : Byte) ≠ 0 ∧ (2 : Byte) ≠ 1 ∧
      (held3.streams[(3 : StreamNo)].hold = true ∧ (∀ e ∈ held3.pq, e.stream ≠ 3) ∧ ∀ p ∈ held3.prt, p.stream ≠ 3) ∧
      served.streams[(3 : StreamNo)].hold = false ∧ (fill 2 0).length ≠ 1 := by decide +kernel

theorem witness_StartAndStopMoveTheOperatingState :
    portReady served ∧ portReady State.reset ∧ served.opState = .online ∧ State.reset.opState = .offline ∧
      (reads.setOpState .draining).opState ≠ .offline := by decide

theorem witness_StreamSetCommandsActOnTheNamedStreams : Inv withOpen ∧ portReady withOpen := ⟨inv_withOpen, by decide⟩

theorem witness_TakesReturnTheOldestReport :
    portReady lastTag ∧ (∃ v rest, lastTag.nq = v :: rest) ∧ served.nq = [] ∧ (∃ r rest, lastTag.el = r :: rest) ∧
      served.el = [] ∧ ((0 : Byte) ≠ 0 ∨ ((2 : Byte) ≠ 0 ∧ (2 : Byte) ≠ 1)) :=
  ⟨by decide, ⟨_, _, rfl⟩, rfl, ⟨_, _, rfl⟩, rfl, by decide⟩

theorem witness_FramesAndRowsAgree :
    (Instr.writeItemWindow 15 (framedData (fill 12 0))).WellFormed = true ∧
      frameOfInstr (.writeItemWindow 15 (framedData (fill 12 0))) = some ⟨0x02 :: 0x00 :: 0x2F :: 0x0C :: fill 12 0, 0⟩ := by
  decide +kernel

theorem witness_OperatingStateMovesOnlyAsStated :
    exec (.start (framed 0 0 [])) State.reset = .next (after (.start (framed 0 0 [])) State.reset) ∧
      (after (.start (framed 0 0 [])) State.reset).opState ≠ State.reset.opState := ⟨rfl, by decide +kernel⟩

/-- DRAINING with one PARKED entry whose claim is due, and a START that has waited for REFCLK: the drain completes and the START is taken. -/
def drainsThenStarts : State :=
  (((served.setOpState .draining).setPrt [readEntry 0 3 13 false (.parked .fault { count := 1000, limit := 1000 })]).setNextId
    1).setHeld [.arrival (.start (framed 0 0 []))]

theorem test_tick_completes_the_drain_and_takes_a_held_start :
    (after .tick drainsThenStarts).opState = .online ∧ (after .tick drainsThenStarts).prt = [] := by decide +kernel

theorem witness_SetUpChangesOnlyAtItsOwnWrites :
    (∀ d ∈ commandsTaken (.writeItemTimer .claimTime (framedData [0, 4])) served, d.WellFormed = true) ∧
      exec (.writeItemTimer .claimTime (framedData [0, 4])) served =
        .next (after (.writeItemTimer .claimTime (framedData [0, 4])) served) ∧
      timerValue (after (.writeItemTimer .claimTime (framedData [0, 4])) served).timers .claimTime ≠
        timerValue served.timers .claimTime := ⟨by decide +kernel, rfl, by decide +kernel⟩

theorem witness_PostedWritesAreKept :
    Inv flagBehindData ∧ exec .grant flagBehindData = .next (after .grant flagBehindData) ∧
      ∃ e ∈ flagBehindData.pq, e.state = .issued 1 := ⟨inv_flagBehindData, rfl, by decide +kernel⟩

/-- R73, R162: the grant that was due comes before the held response, which then fails the entry. -/
theorem witness_PostedWritesAreKept_sent_in_the_cycle :
    Inv earlyResponse ∧ exec .tick earlyResponse = .next (after .tick earlyResponse) ∧ (after .tick earlyResponse).pq = [] ∧
      sentInCycle .tick (after .tick earlyResponse) 0 (plainEntry 0 7 64 .sealed) ∧
      (after .tick earlyResponse).streams[(7 : StreamNo)].faultMark = true :=
  ⟨inv_earlyResponse, rfl, by decide +kernel, ⟨.inl rfl, _, by decide +kernel, fun _ => rfl⟩, by decide +kernel⟩

theorem witness_OperatingStateMovesOnlyAsStated_held :
    exec .tick drainsThenStarts = .next (after .tick drainsThenStarts) ∧
      (after .tick drainsThenStarts).opState ≠ drainsThenStarts.opState ∧ .start (framed 0 0 []) ∈ commandsTaken .tick drainsThenStarts ∧
      takesNoHeld .tick served := ⟨rfl, by decide +kernel⟩

theorem witness_FaultMarksMoveOnlyAsStated :
    Inv flagBehindData ∧
      exec (.writeResponse 1 .fault) flagBehindData = .next (after (.writeResponse 1 .fault) flagBehindData) ∧
      flagBehindData.streams[(4 : StreamNo)].faultMark = false ∧
      (after (.writeResponse 1 .fault) flagBehindData).streams[(4 : StreamNo)].faultMark = true :=
  ⟨inv_flagBehindData, rfl, by decide +kernel⟩

/-- `served` with one command waiting. -/
def oneWaiting : State := served.setPending [.write 1 (addr 0 16) (fill 16 0)]

theorem inv_oneWaiting : Inv oneWaiting := by constructor <;> decide +kernel

theorem witness_every_step :
    Inv oneWaiting ∧ Bounded oneWaiting ∧ EntriesAccounted oneWaiting ∧ CountersAgree oneWaiting ∧
      step oneWaiting = .next (after (.write 1 (addr 0 16) (fill 16 0)) served) ∧
      (after (.write 1 (addr 0 16) (fill 16 0)) served).pq.length = 1 := by
  refine ⟨inv_oneWaiting, ?_, ?_, ?_, rfl, ?_⟩ <;> decide +kernel

end Sys2Proof.Tests
end

/-! ## What an offered report and a leaving flag do to the queues (R37, R135, R137, R139, R142). -/

namespace Sys2Proof.Machine

theorem offerError_of_room (r : ErrorRecord) (s : State) (h : s.el.length < 8) : offerError r s = s.setEl (s.el ++ [r]) :=
  if_pos h

theorem offerError_of_full (r : ErrorRecord) (s : State) (h : 8 ≤ s.el.length) :
    offerError r s = s.setErrorsLost (saturatingSucc 255 s.errorsLost) :=
  if_neg (Nat.not_lt.mpr h)

theorem offerNotice_of_room (n : Notice) (s : State) (h : s.nq.length < 16) : offerNotice n s = s.setNq (s.nq ++ [n]) :=
  if_pos h

theorem offerNotice_of_full (n : Notice) (s : State) (h : 16 ≤ s.nq.length) :
    offerNotice n s = s.setNoticesLost (saturatingSucc 255 s.noticesLost) :=
  if_neg (Nat.not_lt.mpr h)

/-- R137. -/
theorem evtInt_iff (s : State) : evtInt s = true ↔ s.nq ≠ [] := by
  simp [evtInt]

/-- R142. -/
theorem errInt_iff (s : State) : errInt s = true ↔ s.el ≠ [] ∨ s.errorsLost ≠ 0 := by
  simp [errInt]

/-- R37: the notice that an entry offers as it leaves with an outcome; none for a PLAIN entry or where notify is off. -/
def leavingNotice (o : ReleaseOutcome) (e : PqEntry) : Option Notice :=
  match e.kind with
  | .release w true _ => some { window := w, stream := e.stream, line := e.line, outcome := o }
  | .release _ false _ | .plain _ => none

theorem noticeOfLeaving_of_some {e : PqEntry} {o : ReleaseOutcome} {n : Notice} (s : State) (h : leavingNotice o e = some n) :
    noticeOfLeaving e o s = offerNotice n s := by
  unfold leavingNotice at h
  unfold noticeOfLeaving
  split at h <;> simp_all

theorem noticeOfLeaving_of_none {e : PqEntry} {o : ReleaseOutcome} (s : State) (h : leavingNotice o e = none) :
    noticeOfLeaving e o s = s := by
  unfold leavingNotice at h
  unfold noticeOfLeaving
  split at h <;> simp_all

/-- Settles O4: each clause is the lemma on the operation that it names. -/
theorem reportsJoinOrAreLost : Obligations.ReportsJoinOrAreLost := by
  intro s r n e o
  refine ⟨offerError_of_room r s, offerError_of_full r s, offerNotice_of_room n s, offerNotice_of_full n s, evtInt_iff s,
    errInt_iff s, fun w v h => ?_, fun w v h => ?_, fun m h => ?_⟩
  · exact noticeOfLeaving_of_some s (by simp [leavingNotice, h])
  · exact noticeOfLeaving_of_none s (by simp [leavingNotice, h])
  · exact noticeOfLeaving_of_none s (by simp [leavingNotice, h])

end Sys2Proof.Machine

/-! ## The frame of a port that is ready, and the write of a stream's order mode (R41, R148 to R151, R157). -/

namespace Sys2Proof.Machine

/-- R148, R151: on a ready port the rise of CS ends the frame of a command as the statements spell it. -/
theorem frameEnded_of_portReady {s : State} {c : Instr} {f : Frame} (ready : portReady s) (hf : frameOfInstr c = some f) :
    frameEnded f (s.setMisos []) = afterCsRise s s c := by
  obtain ⟨hpor, hspoiled, -⟩ := ready
  have hmiso : misoAtEnd (s.setMisos []) f = shiftOut (sentByte (replySent s)) f.bytes.length f.extra.val := by
    unfold misoAtEnd replySent
    cases hp : s.frameInProgress with
    | csHigh => simp [hp, hpor]
    | receiving bits sending => simp [hp]
    | underReset sending cycles => simp [FrameProgress.spoiled, hp] at hspoiled
  rw [frameEnded_eq, hmiso, afterCsRise, misoDuring, hf]
  rfl

/-- R149, R150: on a ready port the frame of a command that has one is taken at its end. -/
theorem endFrame_of_portReady {s : State} {c : Instr} {f : Frame} (ready : portReady s) (hf : frameOfInstr c = some f) :
    endFrame c s = takeFrame c f (afterCsRise s s c) := by
  have hstep : endFrame c s = takeFrameEnd c f (s.setMisos []) := by
    rw [endFrame_eq c f s hf]
    rcases arriveAtManagement_cases c f (s.setMisos []) with ⟨h, -⟩ | ⟨-, -, h⟩ | ⟨-, h, -⟩ | ⟨-, h, -⟩
    · exact absurd (ready.1.symm.trans h) (by decide)
    · exact h
    · exact absurd (ready.2.2.symm.trans h) (by decide)
    · exact absurd (ready.2.2.symm.trans h) (by decide)
  rcases takeFrameEnd_cases c f (s.setMisos []) with ⟨⟨r, n, h⟩, -⟩ | ⟨-, h⟩
  · have hspoiled := ready.2.1
    rw [show s.frameInProgress = .underReset r n from h] at hspoiled
    simp [FrameProgress.spoiled] at hspoiled
  · rw [hstep, h, frameEnded_of_portReady ready hf]

/-- R149: a WRITE ITEM frame of up to 12 data bytes is well-framed. -/
theorem parseFrame_writeItemFrame (n : Nat) (data : List Byte) (h : data.length ≤ 12) :
    parseFrame (itemFrame .writeItem n (framedData data)) =
      some { command := .writeItem, item := beNat [BitVec.ofNat 8 (n / 256), BitVec.ofNat 8 n], data := data } := by
  have hlen : (BitVec.ofNat 8 data.length).toNat = data.length := by
    rw [BitVec.toNat_ofNat]; omega
  have hcode : commandOfCode (commandCode .writeItem) = some .writeItem := by decide
  simp only [parseFrame, itemFrame, framedData, beBytes, List.nil_append, List.cons_append, hcode, hlen, Config.maxFrameData]
  rw [if_neg (by simp), if_neg (by omega), if_neg (by simp), if_neg (by simp [fixedDataLength])]

/-- R150: the end of a WRITE_ITEM_ORDER_MODE frame on a ready port is the write of the order mode, and its reply. -/
theorem exec_writeItemOrderMode {s : State} (i : StreamNo) (data : List Byte) (ready : portReady s) (h : data.length ≤ 12) :
    let c : Instr := .writeItemOrderMode i (framedData data)
    let done := writeOrderMode i data (afterCsRise s s c)
    exec c s = .next (done.1.setReply done.2) := by
  intro c done
  have htake := endFrame_of_portReady (c := c) ready rfl
  rw [takeFrame, parseFrame_writeItemFrame _ data h] at htake
  exact congrArg Host.Outcome.next htake

theorem orderModeOfCode_eq_none {b : Byte} (h0 : b ≠ 0) (h1 : b ≠ 1) : orderModeOfCode b = none :=
  (if_neg h0).trans (if_neg h1)

theorem orderModeOfCode_eq_some {b : Byte} (h : b = 0 ∨ b = 1) :
    orderModeOfCode b = some (if b = 0 then .loose else .strict) := by
  rcases h with rfl | rfl <;> rfl

/-- R41: the stream is held and has no PQ and no PRT entry. -/
theorem orderModeWritable_iff (s : State) (i : StreamNo) :
    orderModeWritable s i = true ↔
      s.streams[i].hold = true ∧ (∀ e ∈ s.pq, e.stream ≠ i) ∧ ∀ p ∈ s.prt, p.stream ≠ i := by
  simp [orderModeWritable, drained, and_assoc]

theorem writeOrderMode_of_none (i : StreamNo) (b : Byte) (s : State) (h : orderModeOfCode b = none) :
    writeOrderMode i [b] s = (s, bareReply .badValue) := by
  simp [writeOrderMode, h]

theorem writeOrderMode_of_some (i : StreamNo) (b : Byte) (m : OrderMode) (s : State) (h : orderModeOfCode b = some m) :
    writeOrderMode i [b] s =
      if orderModeWritable s i then (setStream i { s.streams[i] with orderMode := m } s, bareReply .ok)
      else (s, bareReply .refused) := by
  simp [writeOrderMode, h]

/-- R157: a stream item takes one data byte. -/
theorem writeOrderMode_of_length (i : StreamNo) (data : List Byte) (s : State) (h : data.length ≠ 1) :
    writeOrderMode i data s = (s, bareReply .frameError) := by
  unfold writeOrderMode
  split
  · exact absurd rfl h
  · rfl

/-- Settles O46: on a ready port the command is `writeOrderMode`, whose branches are the four clauses. -/
theorem orderModeChangesOnlyWhenHeldAndEmpty : Obligations.OrderModeChangesOnlyWhenHeldAndEmpty := by
  intro s i b data ready hlen c free
  have hexec := exec_writeItemOrderMode i [b] ready (Nat.one_le_ofNat)
  have hfree : orderModeWritable (afterCsRise s s c) i = true ↔ free := orderModeWritable_iff _ i
  refine ⟨fun h0 h1 => ?_, fun hb hf => ?_, fun hb hf => ?_, fun hne => ?_⟩
  · rw [hexec, writeOrderMode_of_none i b _ (orderModeOfCode_eq_none h0 h1)]
    rfl
  · rw [hexec, writeOrderMode_of_some i b _ _ (orderModeOfCode_eq_some hb), if_pos (hfree.mpr hf)]
    rfl
  · rw [hexec, writeOrderMode_of_some i b _ _ (orderModeOfCode_eq_some hb), if_neg (mt hfree.mp hf)]
    rfl
  · rw [exec_writeItemOrderMode i data ready hlen, writeOrderMode_of_length i data _ hne]
    rfl

end Sys2Proof.Machine

/-! ## Issuability by the place of an entry in acceptance order (R27 to R30). -/

namespace Sys2Proof.Machine

theorem PqEntry.isSealed_iff (e : PqEntry) : e.isSealed = true ↔ e.state = .sealed := by
  unfold PqEntry.isSealed
  split <;> simp_all

theorem PqEntry.isIssued_iff (e : PqEntry) : e.isIssued = true ↔ ∃ t, e.state = .issued t := by
  unfold PqEntry.isIssued
  split <;> simp_all

theorem PqEntry.isRelease_iff (e : PqEntry) : e.isRelease = true ↔ ∃ w n v, e.kind = .release w n v := by
  unfold PqEntry.isRelease
  split <;> simp_all

/-- R27: (a), (b) and (c) for one earlier entry. -/
theorem holdsBack_eq_false_iff (streams : Vector StreamRecord 8) (e x : PqEntry) :
    holdsBack streams e x = false ↔ x.line ≠ e.line ∧ (streams[e.stream].orderMode = .strict → x.stream ≠ e.stream) ∧
      ((∃ w n v, e.kind = .release w n v) → x.stream ≠ e.stream) := by
  rw [← PqEntry.isRelease_iff]
  unfold holdsBack
  by_cases hl : x.line = e.line <;> by_cases hs : x.stream = e.stream <;> simp [hl, hs]

/-- Where the ids are distinct, the entries before an entry are those earlier than its id. -/
theorem earlierThan_of_split {pq before after : List PqEntry} {e : PqEntry} (hnodup : (pq.map PqEntry.id).Nodup)
    (hpq : pq = before ++ e :: after) : earlierThan pq e.id = before := by
  subst hpq
  have hne : ∀ x ∈ before, (x.id != e.id) = true := by
    simp only [List.map_append, List.map_cons, List.nodup_append, List.mem_map] at hnodup
    intro x hx
    simpa using hnodup.2.2 x.id ⟨x, hx, rfl⟩ e.id List.mem_cons_self
  rw [earlierThan, List.takeWhile_append_of_pos hne]
  simp

/-- R27: issuability by the entries accepted before. -/
theorem issuable_iff {streams : Vector StreamRecord 8} {pq before after : List PqEntry} {e : PqEntry}
    (hnodup : (pq.map PqEntry.id).Nodup) (hpq : pq = before ++ e :: after) :
    issuable streams pq e = true ↔ e.state = .sealed ∧ ∀ x ∈ before, holdsBack streams e x = false := by
  rw [issuable, earlierThan_of_split hnodup hpq, Bool.and_eq_true, PqEntry.isSealed_iff]
  simp

/-- R28 to R30: no entry accepted before an ISSUED entry holds it back. -/
theorem holdsBack_issued {s : State} (hinv : Inv s) {before after : List PqEntry} {e x : PqEntry}
    (hpq : s.pq = before ++ e :: after) (hissued : e.isIssued = true) (hx : x ∈ before) : holdsBack s.streams e x = false := by
  have hnone := (hinv.inOrder e (by simp [hpq]) hissued).1
  rw [earlierThan_of_split hinv.distinct.1 hpq] at hnone
  exact Bool.eq_false_of_not_eq_true (List.any_eq_false.mp hnone x hx)

/-- Settles O21: R27 entry by entry; of two ISSUED entries of a line, or of a STRICT stream, the earlier would hold the later back. -/
theorem issueFollowsTheOrderRules : Obligations.IssueFollowsTheOrderRules := by
  refine ⟨fun s before after e hdistinct hpq => ?_, fun s hinv => ⟨fun e he x hx t u hte hux hsame => ?_, ?_⟩⟩
  · rw [issuable_iff hdistinct.1 hpq]
    simp only [holdsBack_eq_false_iff]
  · have hie := e.isIssued_iff.mpr ⟨t, hte⟩
    have hix := x.isIssued_iff.mpr ⟨u, hux⟩
    obtain ⟨before, after, hpq⟩ := List.append_of_mem he
    rw [hpq, List.mem_append, List.mem_cons] at hx
    rcases hx with hx | rfl | hx
    · have hfree := (holdsBack_eq_false_iff ..).mp (holdsBack_issued hinv hpq hie hx)
      rcases hsame with hline | ⟨hstream, hstrict⟩
      · exact absurd hline.symm hfree.1
      · exact absurd hstream.symm (hfree.2.1 hstrict)
    · rfl
    · obtain ⟨between, rest, rfl⟩ := List.append_of_mem hx
      have hpq' : s.pq = (before ++ e :: between) ++ x :: rest := by simp [hpq]
      have hfree := (holdsBack_eq_false_iff ..).mp (holdsBack_issued (x := e) hinv hpq' hix (by simp))
      rcases hsame with hline | ⟨hstream, hstrict⟩
      · exact absurd hline hfree.1
      · exact absurd hstream (hfree.2.1 (by simpa only [hstream] using hstrict))
  · intro before after e hpq hissued hrelease x hx
    have hfree := (holdsBack_eq_false_iff ..).mp (holdsBack_issued hinv hpq (e.isIssued_iff.mpr hissued) hx)
    exact hfree.2.2 hrelease

end Sys2Proof.Machine

/-! ## What the judging of marked release entries makes leave, counts and notices (R20, R34, R36 to R38, R135). -/

namespace Sys2Proof.Machine

/-! ### Who leaves and who stays -/

/-- R34: the entry at the head of those judged leaves. -/
theorem voidScan_cons_of_void {streams : Vector StreamRecord 8} {kept : List PqEntry} {e : PqEntry} (l : List PqEntry)
    (h : (e.isSealed && e.isVoidMarked && !kept.any (holdsBack streams e)) = true) :
    voidScan streams kept (e :: l) = ((voidScan streams kept l).1, e :: (voidScan streams kept l).2) := by
  rw [voidScan, if_pos h]

/-- R34: the entry at the head of those judged stays. -/
theorem voidScan_cons_of_keep {streams : Vector StreamRecord 8} {kept : List PqEntry} {e : PqEntry} (l : List PqEntry)
    (h : (e.isSealed && e.isVoidMarked && !kept.any (holdsBack streams e)) = false) :
    voidScan streams kept (e :: l) = voidScan streams (kept ++ [e]) l := by
  rw [voidScan, h]
  rfl

/-- R34: what remains is what was kept before and those judged that are not voided, in order. -/
theorem voidScan_kept_eq_filter (streams : Vector StreamRecord 8) (l kept : List PqEntry) (h : l.Nodup) :
    (voidScan streams kept l).1 = kept ++ l.filter fun x => x ∉ (voidScan streams kept l).2 := by
  induction l generalizing kept with
  | nil => simp [voidScan]
  | cons e l ih =>
    obtain ⟨he, hl⟩ := List.nodup_cons.mp h
    cases hc : e.isSealed && e.isVoidMarked && !kept.any (holdsBack streams e) with
    | true =>
      have hsame : (l.filter fun x => x ∉ e :: (voidScan streams kept l).2) =
          l.filter fun x => x ∉ (voidScan streams kept l).2 :=
        List.filter_congr fun x hx => by
          have hne : x ≠ e := fun hxe => he (hxe ▸ hx)
          simp [hne]
      rw [voidScan_cons_of_void l hc, List.filter_cons_of_neg (by simp), hsame]
      exact ih kept hl
    | false =>
      have hstay : e ∉ (voidScan streams (kept ++ [e]) l).2 := fun hmem => he ((voidScan_gone streams l _).subset hmem)
      rw [voidScan_cons_of_keep l hc, List.filter_cons_of_pos (by simpa using hstay)]
      simpa using ih (kept ++ [e]) hl

/-- A part of a list without repetition, in the list's order, is what the list holds of it. -/
theorem eq_filter_mem_of_sublist {l₁ l₂ : List PqEntry} (h : l₁.Sublist l₂) (hnodup : l₂.Nodup) :
    l₁ = l₂.filter (· ∈ l₁) := by
  have hsub : l₁.Sublist (l₂.filter (· ∈ l₁)) := by
    have hfilter := h.filter (· ∈ l₁)
    rwa [List.filter_eq_self.mpr (by simp)] at hfilter
  have hperm : l₁.Perm (l₂.filter (· ∈ l₁)) :=
    (List.perm_ext_iff_of_nodup (h.nodup hnodup) (hnodup.filter _)).mpr fun x => by
      simpa using fun hx => h.subset hx
  exact hsub.eq_of_length hperm.length_eq

/-- R34: those voided are the ones that do not remain. -/
theorem voidScan_gone_eq_filter (streams : Vector StreamRecord 8) (l : List PqEntry) (h : l.Nodup) :
    (l.filter fun x => x ∉ (voidScan streams [] l).1) = (voidScan streams [] l).2 := by
  rw [eq_filter_mem_of_sublist (voidScan_gone streams l []) h, voidScan_kept_eq_filter streams l [] h]
  exact List.filter_congr fun x hx => by simp [hx]

/-- R34: no entry that remains and was accepted earlier holds back an entry voided. -/
theorem voidScan_gone_free (streams : Vector StreamRecord 8) (l kept : List PqEntry) (h : (kept ++ l).Nodup)
    {before after : List PqEntry} {e x : PqEntry} (hl : l = before ++ e :: after)
    (hgone : e ∈ (voidScan streams kept l).2) (hx : x ∈ kept ++ before) (hstay : x ∈ (voidScan streams kept l).1) :
    holdsBack streams e x = false := by
  induction l generalizing kept before with
  | nil => simp at hl
  | cons y l ih =>
    obtain ⟨hy, hrest⟩ := List.nodup_cons.mp (List.nodup_middle.mp h)
    rw [List.mem_append, not_or] at hy
    cases hc : y.isSealed && y.isVoidMarked && !kept.any (holdsBack streams y) with
    | true =>
      have hfree : ∀ z ∈ kept, holdsBack streams y z = false := by
        simpa using (Bool.and_eq_true_iff.mp hc).2
      rw [voidScan_cons_of_void l hc] at hgone hstay
      have hxy : x ≠ y := by
        rintro rfl
        obtain ⟨rest, hkept, hsub⟩ := voidScan_kept streams l kept
        rw [hkept, List.mem_append] at hstay
        exact hstay.elim hy.1 fun hmem => hy.2 (hsub.subset hmem)
      cases before with
      | nil =>
        obtain ⟨rfl, -⟩ := List.cons.inj hl
        exact hfree x (by simpa using hx)
      | cons b before =>
        obtain ⟨rfl, rfl⟩ := List.cons.inj hl
        have hey : e ≠ y := fun hey => hy.2 (by simp [← hey])
        exact ih kept hrest rfl (by simpa [hey] using hgone) (by simpa [hxy] using hx) hstay
    | false =>
      rw [voidScan_cons_of_keep l hc] at hgone hstay
      cases before with
      | nil =>
        obtain ⟨rfl, -⟩ := List.cons.inj hl
        exact absurd ((voidScan_gone streams l _).subset hgone) hy.2
      | cons b before =>
        obtain ⟨rfl, rfl⟩ := List.cons.inj hl
        exact ih (kept ++ [y]) (by simpa using h) rfl hgone (by simpa using hx) hstay

/-- R34: an entry judged that remains is not SEALED and marked with no earlier entry that remains holding it back. -/
theorem voidScan_kept_not_void (streams : Vector StreamRecord 8) (l kept : List PqEntry) {before after : List PqEntry}
    {e : PqEntry} (h : (voidScan streams kept l).1 = kept ++ before ++ e :: after) :
    (e.isSealed && e.isVoidMarked && !(kept ++ before).any (holdsBack streams e)) = false := by
  induction l generalizing kept before with
  | nil => simp [voidScan] at h
  | cons y l ih =>
    cases hc : y.isSealed && y.isVoidMarked && !kept.any (holdsBack streams y) with
    | true => exact ih kept (by rwa [voidScan_cons_of_void l hc] at h)
    | false =>
      rw [voidScan_cons_of_keep l hc] at h
      obtain ⟨rest, hrest, -⟩ := voidScan_kept streams l (kept ++ [y])
      have htail : y :: rest = before ++ e :: after := by simpa [hrest] using h
      cases before with
      | nil =>
        obtain ⟨rfl, -⟩ := List.cons.inj htail
        simpa using hc
      | cons b before =>
        obtain ⟨rfl, -⟩ := List.cons.inj htail
        simpa using ih (kept ++ [y]) (before := before) (by simpa using h)

/-! ### Counts and notices -/

@[simp] theorem noticeOfLeaving_counter (e : PqEntry) (o : ReleaseOutcome) (s : State) (d : Counter) :
    (noticeOfLeaving e o s).counter d = s.counter d := by
  rw [noticeOfLeaving_frame]; rfl

/-- R144: a counter after `bump`. -/
theorem bump_counter (c d : Counter) (s : State) :
    (bump c s).counter d = if d = c then saturatingSucc Config.counterMax (s.counter d) else s.counter d := by
  have h := bump_counters_get c s d.index
  simp only [Counter.index_inj] at h
  exact h

theorem noteVoided_counter (s : State) (e : PqEntry) (d : Counter) :
    (noteVoided s e).counter d =
      if d = .flagsVoided then saturatingSucc Config.counterMax (s.counter d) else s.counter d := by
  rw [noteVoided, noticeOfLeaving_counter, bump_counter]

theorem saturatingSucc_eq_min {m n : Nat} (h : n ≤ m) : saturatingSucc m n = min m (n + 1) := by
  unfold saturatingSucc
  split <;> omega

/-- R36: FLAGS_VOIDED after the entries of a list have been noted. -/
theorem noteVoided_foldl_flagsVoided (l : List PqEntry) (s : State) (h : s.counter .flagsVoided ≤ 0xFFFFFFFF) :
    (l.foldl noteVoided s).counter .flagsVoided = min 0xFFFFFFFF (s.counter .flagsVoided + l.length) := by
  induction l generalizing s with
  | nil => simpa using h
  | cons e l ih =>
    have hone : (noteVoided s e).counter .flagsVoided = min 0xFFFFFFFF (s.counter .flagsVoided + 1) := by
      rw [noteVoided_counter, if_pos rfl]
      exact saturatingSucc_eq_min h
    rw [List.foldl_cons, ih _ (hone ▸ Nat.min_le_left ..), hone, List.length_cons]
    omega

theorem noteVoided_foldl_counter_ne (l : List PqEntry) (s : State) {d : Counter} (h : d ≠ .flagsVoided) :
    (l.foldl noteVoided s).counter d = s.counter d := by
  induction l generalizing s with
  | nil => rfl
  | cons e l ih => rw [List.foldl_cons, ih, noteVoided_counter, if_neg h]

@[simp] theorem bump_nq (c : Counter) (s : State) : (bump c s).nq = s.nq := rfl
@[simp] theorem bump_noticesLost (c : Counter) (s : State) : (bump c s).noticesLost = s.noticesLost := rfl

/-- R37, R135: the noting of a voided entry, with no notice, with room for its notice, and with none. -/
theorem noteVoided_cases (s : State) (e : PqEntry) :
    (leavingNotice .voided e = none ∧ noteVoided s e = bump .flagsVoided s) ∨
      ∃ n, leavingNotice .voided e = some n ∧
        ((s.nq.length < 16 ∧ noteVoided s e = (bump .flagsVoided s).setNq (s.nq ++ [n])) ∨
          (16 ≤ s.nq.length ∧
            noteVoided s e = (bump .flagsVoided s).setNoticesLost (saturatingSucc 255 s.noticesLost))) := by
  cases hn : leavingNotice .voided e with
  | none => exact .inl ⟨rfl, noticeOfLeaving_of_none _ hn⟩
  | some n =>
    refine .inr ⟨n, rfl, ?_⟩
    rw [noteVoided, noticeOfLeaving_of_some _ hn]
    exact offerNotice_cases n (bump .flagsVoided s)

/-- R37, R135: the notices of voided entries join the NQ while there is room. -/
theorem noteVoided_foldl_nq (l : List PqEntry) (s : State) :
    (l.foldl noteVoided s).nq = s.nq ++ (l.filterMap (leavingNotice .voided)).take (16 - s.nq.length) := by
  induction l generalizing s with
  | nil => simp
  | cons e l ih =>
    rw [List.foldl_cons, ih]
    rcases noteVoided_cases s e with ⟨hn, h⟩ | ⟨n, hn, ⟨hroom, h⟩ | ⟨hfull, h⟩⟩
    · simp [h, hn]
    · have hspace : 16 - s.nq.length = 16 - (s.nq.length + 1) + 1 := by omega
      simp [h, hn, hspace]
    · have hspace : 16 - s.nq.length = 0 := by omega
      simp [h, hspace]

/-- R135: the notices of voided entries that find no room are counted. -/
theorem noteVoided_foldl_noticesLost (l : List PqEntry) (s : State) :
    (l.foldl noteVoided s).noticesLost =
      max s.noticesLost
        (min 255 (s.noticesLost + ((l.filterMap (leavingNotice .voided)).length - (16 - s.nq.length)))) := by
  induction l generalizing s with
  | nil => simp
  | cons e l ih =>
    rw [List.foldl_cons, ih]
    rcases noteVoided_cases s e with ⟨hn, h⟩ | ⟨n, hn, ⟨hroom, h⟩ | ⟨hfull, h⟩⟩
    · simp [h, hn]
    · simp only [h, hn, List.filterMap_cons, State.setNq_nq, State.setNq_noticesLost, bump_noticesLost, List.length_append,
        List.length_cons, List.length_nil]
      omega
    · simp only [h, hn, List.filterMap_cons, State.setNoticesLost_nq, State.setNoticesLost_noticesLost, bump_nq,
        List.length_cons, saturatingSucc]
      split <;> omega

/-! ### The judging as a whole -/

/-- The entries that the judging voids. -/
def voidedEntries (s : State) : List PqEntry :=
  (voidScan s.streams [] s.pq).2

theorem voidPass_pq (s : State) : (voidPass s).pq = (voidScan s.streams [] s.pq).1 := by
  obtain ⟨q, p, c, n, k, h, hq, -⟩ := voidPass_frame s
  rw [h, ← hq]
  rfl

theorem voidPass_prt (s : State) :
    (voidPass s).prt = prtAfterLeaving ((voidedEntries s).map PqEntry.id) s.prt := by
  obtain ⟨q, p, c, n, k, h, -, hp⟩ := voidPass_frame s
  rw [h, prtAfterLeaving_eq, voidedEntries, ← hp]
  rfl

/-- `voidPass` changes the PQ, the PRT, the counters, the NQ and NOTICES_LOST alone. -/
theorem voidPass_eq_fields (s : State) :
    voidPass s = ((((s.setPq (voidPass s).pq).setPrt (voidPass s).prt).setCounters (voidPass s).counters).setNq
      (voidPass s).nq).setNoticesLost (voidPass s).noticesLost := by
  obtain ⟨q, p, c, n, k, h, -, -⟩ := voidPass_frame s
  rw [h]
  rfl

/-- Settles O7: who leaves by the scan's own lemmas, and what is counted and noticed by those on the fold over who leaves. -/
theorem markedFlagsAreVoidedInOrder : Obligations.MarkedFlagsAreVoidedInOrder := by
  intro s hdistinct hcount t gone offered
  have hnodup : s.pq.Nodup := hdistinct.1.of_map
  have hgone : gone = voidedEntries s := by
    rw [voidedEntries, ← voidScan_gone_eq_filter _ _ hnodup, ← voidPass_pq]
  have hoffered : offered = (voidedEntries s).filterMap (leavingNotice .voided) := by
    rw [← hgone]
    refine List.filterMap_congr fun e _ => ?_
    obtain ⟨id, i, l, b, m | ⟨w, n | n, v⟩, st⟩ := e <;> rfl
  have hstay : t.pq = s.pq.filter fun e => e ∉ gone := by
    rw [hgone]
    exact (voidPass_pq s).trans (voidScan_kept_eq_filter s.streams s.pq [] hnodup)
  refine ⟨hstay, fun e he => ?_, fun e he => ?_, ?_, fun d hd => ?_, ?_, ?_, ?_, voidPass_eq_fields s⟩
  · rw [hgone] at he
    obtain ⟨hsealed, hmarked⟩ := voidScan_gone_marked _ _ _ e he
    refine ⟨hsealed, hmarked, fun x hx hxt => ?_⟩
    obtain ⟨before, after, hpq⟩ := List.append_of_mem ((voidScan_gone ..).subset he)
    rw [earlierThan_of_split hdistinct.1 hpq] at hx
    exact voidScan_gone_free s.streams s.pq [] hnodup hpq he hx (voidPass_pq s ▸ hxt)
  · rintro ⟨hissuable, hmarked⟩
    obtain ⟨before, after, hpq⟩ := List.append_of_mem he
    have hids : (t.pq.map PqEntry.id).Nodup := hdistinct.1.sublist ((hstay ▸ List.filter_sublist).map _)
    obtain ⟨hsealed, hfree⟩ := (issuable_iff hids hpq).mp hissuable
    have hkept := voidScan_kept_not_void s.streams s.pq [] (before := before) ((voidPass_pq s).symm.trans hpq)
    simp [e.isSealed_iff.mpr hsealed, hmarked] at hkept
    obtain ⟨x, hx, hback⟩ := hkept
    exact absurd (hfree x hx) (by simp [hback])
  · rw [hgone]
    exact noteVoided_foldl_flagsVoided _ _ hcount
  · exact noteVoided_foldl_counter_ne _ _ hd
  · rw [hoffered]
    exact noteVoided_foldl_nq _ _
  · rw [hoffered]
    exact noteVoided_foldl_noticesLost _ _
  · rw [hgone]
    exact voidPass_prt s

end Sys2Proof.Machine

/-! ## The operations that move no fault mark: they append no entry, give no tag to an entry and leave FAULT_MARKS alone. -/

namespace Sys2Proof.Machine

/-! ### The relation -/

/-- What tells a PQ entry apart for the fault marks: its name (R1) and its stream. -/
def PqEntry.idAndStream (e : PqEntry) : Nat × StreamNo :=
  (e.id, e.stream)

/-- The fields that the relation below speaks of. -/
def State.marksView (s : State) :
    List PqEntry × Nat × Vector Tag 16 × TimerItems × Vector StreamRecord 8 × Vector Nat 19 × List HeldEvent × List PortEvent :=
  (s.pq, s.nextId, s.tags, s.timers, s.streams, s.counters, s.held, s.portWaiting)

/-- From `u` to `v` no fault mark and no FAULT_MARKS moved, entries only left the PQ, no tag was given to an entry, MEM_TIMEOUT stayed in
its range (R155), and the same events wait for REFCLK. -/
structure MarksQuiet (u v : State) : Prop where
  entries : (v.pq.map PqEntry.idAndStream).Sublist (u.pq.map PqEntry.idAndStream)
  nextId : u.nextId ≤ v.nextId
  owner : ∀ (t : TagNo) (id : Nat) (timer : Timer), v.tags[t] = .busy (.pqEntry id) timer → u.tags[t] = .busy (.pqEntry id) timer
  memTimeout : 10 ≤ u.timers.memTimeout → 10 ≤ v.timers.memTimeout
  marks : ∀ i : StreamNo, v.streams[i].faultMark = u.streams[i].faultMark
  counter : v.counter .faultMarks = u.counter .faultMarks
  held : v.held = u.held
  portWaiting : v.portWaiting = u.portWaiting

namespace MarksQuiet

theorem trans {u v w : State} (h : MarksQuiet u v) (h' : MarksQuiet v w) : MarksQuiet u w where
  entries := h'.entries.trans h.entries
  nextId := h.nextId.trans h'.nextId
  owner t id timer ht := h.owner t id timer (h'.owner t id timer ht)
  memTimeout hu := h'.memTimeout (h.memTimeout hu)
  marks i := (h'.marks i).trans (h.marks i)
  counter := h'.counter.trans h.counter
  held := h'.held.trans h.held
  portWaiting := h'.portWaiting.trans h.portWaiting

/-- A change of other fields. -/
theorem of_eq {u v : State} (h : v.marksView = u.marksView) : MarksQuiet u v := by
  simp only [State.marksView, Prod.mk.injEq] at h
  obtain ⟨hpq, hid, htags, htimers, hstreams, hcounters, hheld, hport⟩ := h
  exact {
    entries := by rw [hpq]
    nextId := hid.ge
    owner := fun t id timer ht => htags ▸ ht
    memTimeout := fun hu => htimers ▸ hu
    marks := fun i => by rw [hstreams]
    counter := by rw [State.counter, hcounters]; rfl
    held := hheld
    portWaiting := hport }

theorem refl (u : State) : MarksQuiet u u :=
  of_eq rfl

theorem setPq (u : State) {q : List PqEntry} (h : (q.map PqEntry.idAndStream).Sublist (u.pq.map PqEntry.idAndStream)) :
    MarksQuiet u (u.setPq q) :=
  { refl u with entries := h }

/-- Entries changed, each keeping its name and stream. -/
theorem setPq_map (u : State) {f : PqEntry → PqEntry} (h : ∀ e ∈ u.pq, (f e).idAndStream = e.idAndStream) :
    MarksQuiet u (u.setPq (u.pq.map f)) :=
  setPq u (by rw [List.map_map]; exact (List.map_congr_left h).symm ▸ List.Sublist.refl _)

theorem setPq_sublist (u : State) {q : List PqEntry} (h : q.Sublist u.pq) : MarksQuiet u (u.setPq q) :=
  setPq u (h.map _)

theorem setPrt (u : State) (x : List PrtEntry) : MarksQuiet u (u.setPrt x) :=
  of_eq rfl

theorem setTbCount (u : State) (x : Fin 50) : MarksQuiet u (u.setTbCount x) :=
  of_eq rfl

theorem setRefclkStopped (u : State) (x : Bool) : MarksQuiet u (u.setRefclkStopped x) :=
  of_eq rfl

theorem setTags (u : State) {x : Vector Tag 16}
    (h : ∀ (t : TagNo) (id : Nat) (timer : Timer), x[t] = .busy (.pqEntry id) timer → u.tags[t] = .busy (.pqEntry id) timer) :
    MarksQuiet u (u.setTags x) :=
  { refl u with owner := h }

theorem setStreams (u : State) {x : Vector StreamRecord 8} (h : ∀ i : StreamNo, x[i].faultMark = u.streams[i].faultMark) :
    MarksQuiet u (u.setStreams x) :=
  { refl u with marks := h }

theorem setTimers (u : State) {x : TimerItems} (h : 10 ≤ u.timers.memTimeout → 10 ≤ x.memTimeout) :
    MarksQuiet u (u.setTimers x) :=
  { refl u with memTimeout := h }

/-- An entry that remains was there, with its name and stream. -/
theorem mem_pq {u v : State} (h : MarksQuiet u v) {x : PqEntry} (hx : x ∈ v.pq) :
    ∃ y ∈ u.pq, y.id = x.id ∧ y.stream = x.stream := by
  obtain ⟨y, hy, hxy⟩ := List.mem_map.mp (h.entries.subset (List.mem_map_of_mem hx))
  exact ⟨y, hy, congrArg Prod.fst hxy, congrArg Prod.snd hxy⟩

theorem ids {u v : State} (h : MarksQuiet u v) : (v.pq.map PqEntry.id).Sublist (u.pq.map PqEntry.id) := by
  have hfst := h.entries.map Prod.fst
  simp only [List.map_map] at hfst
  exact hfst

end MarksQuiet

/-! ### Counts, reports and answers -/

theorem marksQuiet_bump {c : Counter} (h : c ≠ .faultMarks) (u : State) : MarksQuiet u (bump c u) :=
  { MarksQuiet.refl u with counter := by rw [bump_counter, if_neg h.symm] }

theorem marksQuiet_offerError (r : ErrorRecord) (u : State) : MarksQuiet u (offerError r u) := by
  rw [offerError_frame]
  exact .of_eq rfl

theorem marksQuiet_noticeOfLeaving (e : PqEntry) (o : ReleaseOutcome) (u : State) : MarksQuiet u (noticeOfLeaving e o u) := by
  rw [noticeOfLeaving_frame]
  exact .of_eq rfl

theorem marksQuiet_giveAnswer (a : Answer) (u : State) : MarksQuiet u (giveAnswer a u) :=
  .of_eq rfl

theorem marksQuiet_answerAccept (u : State) : MarksQuiet u (answerAccept u) :=
  (marksQuiet_giveAnswer _ u).trans (marksQuiet_bump (by decide) _)

theorem marksQuiet_answerRetry (r : RetryReason) (u : State) : MarksQuiet u (answerRetry r u) :=
  (marksQuiet_giveAnswer _ u).trans (marksQuiet_bump (by cases r <;> decide) _)

theorem marksQuiet_answerData (bytes : List Byte) (u : State) : MarksQuiet u (answerData bytes u) :=
  (marksQuiet_giveAnswer _ u).trans (marksQuiet_bump (by decide) _)

theorem marksQuiet_answerAbort (u : State) : MarksQuiet u (answerAbort u) :=
  (marksQuiet_giveAnswer _ u).trans (marksQuiet_bump (by decide) _)

/-! ### Streams and seals -/

theorem marksQuiet_mapStreams {f : StreamNo → StreamRecord → StreamRecord} (h : ∀ i r, (f i r).faultMark = r.faultMark)
    (u : State) : MarksQuiet u (mapStreams f u) :=
  .setStreams u fun i => by simp [h]

/-- The record of a stream after one record has been replaced. -/
theorem setStream_get (i j : StreamNo) (r : StreamRecord) (u : State) :
    (setStream i r u).streams[j] = if j = i then r else u.streams[j] := by
  by_cases h : j = i
  · simp [setStream, h]
  · have hval : i.val ≠ j.val := fun hij => h (Fin.ext hij.symm)
    simp [setStream, h, hval]

theorem marksQuiet_setStream {i : StreamNo} {r : StreamRecord} (u : State) (h : r.faultMark = u.streams[i].faultMark) :
    MarksQuiet u (setStream i r u) := by
  refine .setStreams u fun j => (congrArg StreamRecord.faultMark (setStream_get i j r u)).trans ?_
  split
  · rename_i hj
    rw [h, hj]
  · rfl

theorem marksQuiet_setOpenEntry (i : StreamNo) (ref : Option Nat) (u : State) : MarksQuiet u (setOpenEntry i ref u) :=
  marksQuiet_setStream u rfl

@[simp] theorem PqEntry.toSealed_idAndStream (e : PqEntry) : e.toSealed.idAndStream = e.idAndStream := by
  simp [PqEntry.idAndStream]

theorem marksQuiet_sealWhere (cause : PqEntry → Bool) (u : State) : MarksQuiet u (sealWhere cause u) := by
  refine (MarksQuiet.setPq_map u fun e _ => ?_).trans (marksQuiet_mapStreams (fun i r => ?_) _)
  · split
    · exact e.toSealed_idAndStream
    · rfl
  · split <;> rfl

theorem marksQuiet_sealAll (u : State) : MarksQuiet u (sealAll u) := by
  unfold sealAll
  exact (MarksQuiet.setPq_map u fun e _ => e.toSealed_idAndStream).trans (marksQuiet_mapStreams (fun _ _ => by rfl) _)

/-! ### The PRT and the drain -/

theorem marksQuiet_checkDrain (u : State) : MarksQuiet u (checkDrain u) := by
  rw [checkDrain_frame]
  exact .of_eq rfl

theorem marksQuiet_freePrt (id : Nat) (u : State) : MarksQuiet u (freePrt id u) :=
  (MarksQuiet.setPrt u _).trans (marksQuiet_checkDrain _)

theorem marksQuiet_updatePrt (id : Nat) (f : PrtEntry → PrtEntry) (u : State) : MarksQuiet u (updatePrt id f u) :=
  .setPrt u _

theorem marksQuiet_parkFetched (id : Nat) (r : Fetched) (u : State) : MarksQuiet u (parkFetched id r u) :=
  .setPrt u _

/-! ### Entries that leave -/

theorem marksQuiet_leavePq (id : Nat) (u : State) : MarksQuiet u (leavePq id u) :=
  (MarksQuiet.setPq_sublist u List.eraseP_sublist).trans (.setPrt _ _)

theorem marksQuiet_noteVoided (u : State) (e : PqEntry) : MarksQuiet u (noteVoided u e) :=
  (marksQuiet_bump (by decide) u).trans (marksQuiet_noticeOfLeaving ..)

theorem marksQuiet_foldl_noteVoided (l : List PqEntry) (u : State) : MarksQuiet u (l.foldl noteVoided u) := by
  induction l generalizing u with
  | nil => exact .refl u
  | cons e l ih => exact (marksQuiet_noteVoided u e).trans (ih _)

theorem marksQuiet_voidPass (u : State) : MarksQuiet u (voidPass u) := by
  have hsub : (voidScan u.streams [] u.pq).1.Sublist u.pq := by
    obtain ⟨rest, h, hrest⟩ := voidScan_kept u.streams u.pq []
    rwa [h]
  exact ((MarksQuiet.setPq_sublist u hsub).trans (.setPrt _ _)).trans (marksQuiet_foldl_noteVoided _ _)

theorem marksQuiet_afterLeaving (u : State) : MarksQuiet u (afterLeaving u) :=
  (marksQuiet_voidPass u).trans (marksQuiet_checkDrain _)

theorem marksQuiet_countReleased (e : PqEntry) (u : State) : MarksQuiet u (countReleased e u) := by
  unfold countReleased
  split
  · exact marksQuiet_bump (by decide) u
  · exact .refl u

theorem marksQuiet_retireEntry (e : PqEntry) (u : State) : MarksQuiet u (retireEntry e u) :=
  ((((marksQuiet_leavePq _ u).trans (marksQuiet_bump (by decide) _)).trans (marksQuiet_countReleased ..)).trans
    (marksQuiet_noticeOfLeaving ..)).trans (marksQuiet_afterLeaving _)

/-! ### Tags -/

/-- The tag records after one has been replaced. -/
theorem setTag_get (t k : TagNo) (r : Tag) (u : State) : (setTag t r u).tags[k] = if k = t then r else u.tags[k] := by
  by_cases h : k = t
  · simp [setTag, h]
  · have hval : t.val ≠ k.val := fun htk => h (Fin.ext htk.symm)
    simp [setTag, h, hval]

/-- A tag record replaced by one that no PQ entry owns. -/
theorem marksQuiet_setTag (t : TagNo) {r : Tag} (u : State) (h : ∀ id timer, r ≠ .busy (.pqEntry id) timer) :
    MarksQuiet u (setTag t r u) :=
  .setTags u fun k id timer hk => by
    have hget := (setTag_get t k r u).symm.trans hk
    split at hget
    · exact absurd hget (h id timer)
    · exact hget

/-- Tag records changed, none becoming owned by a PQ entry. -/
theorem marksQuiet_mapTags {f : Tag → Tag}
    (h : ∀ r id timer, f r = .busy (.pqEntry id) timer → r = .busy (.pqEntry id) timer) (u : State) :
    MarksQuiet u (u.setTags (Vector.ofFn fun t => f u.tags[t])) :=
  .setTags u fun t id timer ht => h _ id timer (by simpa using ht)

theorem marksQuiet_lateResponse (t : TagNo) (u : State) : MarksQuiet u (lateResponse t u) :=
  (marksQuiet_setTag t u (by simp)).trans (marksQuiet_offerError ..)

theorem marksQuiet_unexpectedResponse (t : TagNo) (u : State) : MarksQuiet u (unexpectedResponse t u) :=
  marksQuiet_offerError _ u

theorem marksQuiet_recordExhausted (u : State) : MarksQuiet u (recordExhausted u) := by
  unfold recordExhausted
  split
  · exact marksQuiet_offerError _ u
  · exact .refl u

theorem marksQuiet_endFetch (t : TagNo) (id : Nat) (r : ReadResult) (u : State) : MarksQuiet u (endFetch t id r u) := by
  unfold endFetch
  split
  · exact marksQuiet_parkFetched ..
  · exact (marksQuiet_offerError ..).trans (marksQuiet_parkFetched ..)
  · exact .refl u

theorem marksQuiet_takeReadResponse (t : TagNo) (r : ReadResult) (u : State) : MarksQuiet u (takeReadResponse t r u) := by
  unfold takeReadResponse
  split
  · exact (marksQuiet_setTag t u (by simp)).trans (marksQuiet_endFetch ..)
  · exact marksQuiet_setTag t u (by simp)
  · exact marksQuiet_unexpectedResponse t u
  · exact marksQuiet_lateResponse t u
  · exact marksQuiet_unexpectedResponse t u

theorem marksQuiet_grantRead (t : TagNo) (p : PrtEntry) (u : State) : MarksQuiet u (grantRead t p u) := by
  have hsend (v : State) (r : LinkRequest) :
      MarksQuiet v (sendRequest r (v.setLastGranted .read)) := .of_eq rfl
  unfold grantRead
  exact ((marksQuiet_setTag t u (by simp)).trans (marksQuiet_updatePrt ..)).trans (hsend _ _)

/-! ### Timer expiries -/

theorem marksQuiet_expireCombineAge (i : StreamNo) (u : State) : MarksQuiet u (expireCombineAge i u) :=
  marksQuiet_sealWhere _ u

theorem marksQuiet_expireClaim (i : StreamNo) (l : Line) (u : State) : MarksQuiet u (expireClaim i l u) := by
  rcases expireClaim_cases i l u with h | ⟨p, -, -, -, -, h⟩
  · rw [h]; exact .refl u
  · rw [h]
    exact ((marksQuiet_offerError _ u).trans (marksQuiet_bump (by decide) _)).trans (marksQuiet_freePrt ..)

theorem marksQuiet_expireLinger (i : StreamNo) (l : Line) (u : State) : MarksQuiet u (expireLinger i l u) := by
  rcases expireLinger_cases i l u with h | ⟨p, -, -, -, -, h⟩
  · rw [h]; exact .refl u
  · rw [h]; exact marksQuiet_freePrt _ u

/-! ### Transactions -/

theorem marksQuiet_mergeInto (e : PqEntry) (bytes : ByteSet) (u : State) : MarksQuiet u (mergeInto e bytes u) := by
  have hkeep (x : PqEntry) :
      (if x.id = e.id then { x with bytes := mergeBytes e.bytes bytes } else x).idAndStream = x.idAndStream := by
    unfold PqEntry.idAndStream
    split <;> rfl
  have hmerge := (MarksQuiet.setPq_map u fun x _ => hkeep x).trans (marksQuiet_bump (c := .writesMerged) (by decide) _)
  unfold mergeInto
  simp only
  split
  · exact hmerge.trans (marksQuiet_sealWhere ..)
  · exact hmerge

theorem marksQuiet_sealsBeforeAppend (i : StreamNo) (l : Line) (u : State) : MarksQuiet u (sealsBeforeAppend i l u) :=
  (marksQuiet_sealWhere _ u).trans (marksQuiet_sealWhere ..)

theorem marksQuiet_serveMatch (p : PrtEntry) (o : Offset) (n : Nat) (u : State) : MarksQuiet u (serveMatch p o n u) := by
  unfold serveMatch
  split
  · exact marksQuiet_answerRetry _ u
  · exact marksQuiet_answerRetry _ u
  · exact (marksQuiet_freePrt _ u).trans (marksQuiet_answerAbort _)
  · unfold claimParked
    split
    · exact (MarksQuiet.setPrt u _).trans (marksQuiet_answerData ..)
    · exact (marksQuiet_freePrt _ u).trans (marksQuiet_answerData ..)
  · exact (marksQuiet_answerData _ u).trans (marksQuiet_bump (by decide) _)

theorem marksQuiet_parkRead (rt : ReadTreatment) (i : StreamNo) (l : Line) (o : Offset) (n : Nat) (u : State) :
    MarksQuiet u (parkRead rt i l o n u) := by
  have hpark (x : List PrtEntry) : MarksQuiet u ((u.setPrt x).setNextId (u.nextId + 1)) :=
    { MarksQuiet.refl u with nextId := Nat.le_succ _ }
  exact ((hpark _).trans (marksQuiet_sealWhere ..)).trans (marksQuiet_answerRetry ..)

theorem marksQuiet_parkRequest (rt : ReadTreatment) (i : StreamNo) (l : Line) (o : Offset) (n : Nat) (u : State) :
    MarksQuiet u (parkRequest rt i l o n u) := by
  unfold parkRequest
  split
  · exact marksQuiet_answerRetry _ u
  · split
    · exact marksQuiet_parkRead ..
    · split
      · exact (marksQuiet_freePrt _ u).trans (marksQuiet_parkRead ..)
      · exact marksQuiet_answerRetry _ u

theorem marksQuiet_readTransaction (i : StreamNo) (a : Address) (n : Nat) (u : State) :
    MarksQuiet u (readTransaction i a n u) := by
  have habort (r : ErrorRecord) : MarksQuiet u (answerAbort (offerError r u)) :=
    (marksQuiet_offerError r u).trans (marksQuiet_answerAbort _)
  unfold readTransaction
  split
  · exact habort _
  · split
    · exact habort _
    · split
      · exact habort _
      · split
        · exact marksQuiet_serveMatch ..
        · unfold checkStateAndHold
          split
          · exact marksQuiet_answerRetry _ u
          · split
            · exact marksQuiet_answerRetry _ u
            · exact marksQuiet_parkRequest ..

/-! ### Management rows -/

theorem marksQuiet_setReply (u : State) (r : Reply) : MarksQuiet u (u.setReply r) :=
  .of_eq rfl

theorem marksQuiet_frameEnded (f : Frame) (u : State) : MarksQuiet u (frameEnded f u) :=
  .of_eq rfl

theorem marksQuiet_portEdges (edges : List PortEdge) (u : State) : MarksQuiet u (portEdges edges u) :=
  .of_eq rfl

theorem marksQuiet_takeSpoiledFrame (u : State) : MarksQuiet u (takeSpoiledFrame u) :=
  marksQuiet_setReply u _

/-- R155: a MEM_TIMEOUT that is taken is in its range. -/
theorem marksQuiet_writeTimer (k : TimerItem) (data : List Byte) (u : State) : MarksQuiet u (writeTimer k data u).1 := by
  unfold writeTimer
  split
  · exact .refl u
  · split
    · rename_i hrange
      refine .setTimers u fun hu => ?_
      cases k with
      | memTimeout =>
        simp only [timerInRange, Bool.and_eq_true, decide_eq_true_eq] at hrange
        exact hrange.1
      | combineAge => exact hu
      | claimTime => exact hu
      | lingerTime => exact hu
    · exact .refl u

theorem marksQuiet_writeWindow (w : WindowNo) (data : List Byte) (u : State) : MarksQuiet u (writeWindow w data u).1 := by
  unfold writeWindow
  split
  · exact .refl u
  · split
    · exact .refl u
    · exact .of_eq rfl

theorem marksQuiet_writeOrderMode (i : StreamNo) (data : List Byte) (u : State) : MarksQuiet u (writeOrderMode i data u).1 := by
  unfold writeOrderMode
  split
  · split
    · exact .refl u
    · split
      · exact marksQuiet_setStream u rfl
      · exact .refl u
  · exact .refl u

theorem marksQuiet_writeItemAction (r : FrameRequest) (u : State) : MarksQuiet u (writeItemAction r u).1 := by
  unfold writeItemAction
  split
  · exact marksQuiet_writeTimer ..
  · exact marksQuiet_writeWindow ..
  · exact marksQuiet_writeOrderMode ..
  all_goals exact .refl u

theorem marksQuiet_readItemAction (r : FrameRequest) (u : State) : MarksQuiet u (readItemAction r u).1 := by
  unfold readItemAction
  split <;> exact .refl u

theorem marksQuiet_startAction (r : FrameRequest) (u : State) : MarksQuiet u (startAction r u).1 := by
  unfold startAction
  split
  · exact .of_eq rfl
  · exact .refl u
  · exact .refl u

theorem marksQuiet_stopAction (r : FrameRequest) (u : State) : MarksQuiet u (stopAction r u).1 := by
  have hdrain : MarksQuiet u (u.setOpState .draining) := .of_eq rfl
  unfold stopAction
  split
  · exact ((hdrain.trans (marksQuiet_sealAll _)).trans (.setPrt _ _)).trans (marksQuiet_checkDrain _)
  · exact .refl u
  · exact .refl u

theorem marksQuiet_holdAction (r : FrameRequest) (u : State) : MarksQuiet u (holdAction r u).1 := by
  dsimp only [holdAction]
  exact (marksQuiet_sealWhere _ u).trans (marksQuiet_mapStreams (fun i rec => by split <;> rfl) _)

theorem marksQuiet_unholdAction (r : FrameRequest) (u : State) : MarksQuiet u (unholdAction r u).1 := by
  dsimp only [unholdAction]
  exact marksQuiet_mapStreams (fun i rec => by split <;> rfl) u

theorem marksQuiet_takeNoticeAction (r : FrameRequest) (u : State) : MarksQuiet u (takeNoticeAction r u).1 := by
  unfold takeNoticeAction
  split
  · exact .of_eq rfl
  · exact .refl u

theorem marksQuiet_takeLostCount (u : State) : MarksQuiet u (takeLostCount u).1 :=
  .of_eq rfl

theorem marksQuiet_takeRecord (u : State) : MarksQuiet u (takeRecord u).1 := by
  unfold takeRecord
  split
  · exact .of_eq rfl
  · exact .refl u

theorem marksQuiet_takeErrorAction (r : FrameRequest) (u : State) : MarksQuiet u (takeErrorAction r u).1 := by
  unfold takeErrorAction
  split
  · exact marksQuiet_takeRecord u
  · split
    · exact marksQuiet_takeLostCount u
    · exact .refl u

theorem marksQuiet_freeLapsedAction (r : FrameRequest) (u : State) : MarksQuiet u (freeLapsedAction r u).1 :=
  marksQuiet_mapTags (fun r id timer h => by cases r <;> simp_all [Tag.freedIfLapsed]) u

/-- R31, R39, R126: the rows that move fault marks are CLEAR and CLEAR FAULT, and both only clear them. -/
theorem rowAction_marks (c : Instr) (r : FrameRequest) (u : State) :
    MarksQuiet u (rowAction c r u).1 ∨
      (∃ tail, c = .clear tail ∧ (rowAction c r u).1 = clearAll u) ∨
      ∃ tail, c = .clearFault tail ∧ (rowAction c r u).1 =
        mapStreams (fun i rec => if inStreamSet r.data i then { rec with faultMark := false } else rec) u := by
  cases c with
  | readItem => exact .inl (marksQuiet_readItemAction r u)
  | writeItem => exact .inl (marksQuiet_writeItemAction r u)
  | writeItemWindow w => exact .inl (marksQuiet_writeWindow w r.data u)
  | writeItemTimer k => exact .inl (marksQuiet_writeTimer k r.data u)
  | writeItemOrderMode i => exact .inl (marksQuiet_writeOrderMode i r.data u)
  | start => exact .inl (marksQuiet_startAction r u)
  | stop => exact .inl (marksQuiet_stopAction r u)
  | clear tail =>
    cases hop : u.opState with
    | offline => exact .inr (.inl ⟨tail, rfl, by simp [rowAction, clearAction, hop]⟩)
    | online => exact .inl (by simpa [rowAction, clearAction, hop] using .refl u)
    | draining => exact .inl (by simpa [rowAction, clearAction, hop] using .refl u)
  | hold => exact .inl (marksQuiet_holdAction r u)
  | unhold => exact .inl (marksQuiet_unholdAction r u)
  | clearFault tail => exact .inr (.inr ⟨tail, rfl, rfl⟩)
  | takeNotice => exact .inl (marksQuiet_takeNoticeAction r u)
  | takeErrorRecordForm => exact .inl (marksQuiet_takeErrorAction r u)
  | takeErrorLostCountForm => exact .inl (marksQuiet_takeLostCount u)
  | freeLapsed => exact .inl (marksQuiet_freeLapsedAction r u)
  | _ => exact .inl (.refl u)

end Sys2Proof.Machine

/-! ## The account of the fault marks that every operation keeps, from the state in which a command began (R26, R31, R39, R126). -/

namespace Sys2Proof.Machine

/-! ### What CLEAR and CLEAR FAULT leave -/

@[simp] theorem clearAll_pq (u : State) : (clearAll u).pq = u.pq := by simp [clearAll, mapStreams]
@[simp] theorem clearAll_nextId (u : State) : (clearAll u).nextId = u.nextId := by simp [clearAll, mapStreams]
@[simp] theorem clearAll_tags (u : State) : (clearAll u).tags = u.tags := by simp [clearAll, mapStreams]
@[simp] theorem clearAll_timers (u : State) : (clearAll u).timers = u.timers := by simp [clearAll, mapStreams]
@[simp] theorem clearAll_held (u : State) : (clearAll u).held = u.held := by simp [clearAll, mapStreams]
@[simp] theorem clearAll_portWaiting (u : State) : (clearAll u).portWaiting = u.portWaiting := by simp [clearAll, mapStreams]

/-- R126: CLEAR clears every fault mark. -/
@[simp] theorem clearAll_faultMark (u : State) (i : StreamNo) : (clearAll u).streams[i].faultMark = false := by
  simp [clearAll, mapStreams]

/-- R39: CLEAR FAULT sets no fault mark. -/
theorem faultMark_of_clearFault (data : List Byte) (u : State) (i : StreamNo)
    (h : (mapStreams (fun i rec => if inStreamSet data i then { rec with faultMark := false } else rec)
      u).streams[i].faultMark = true) : u.streams[i].faultMark = true := by
  simp only [mapStreams, State.setStreams_streams, Fin.getElem_fin, Vector.getElem_ofFn] at h
  split at h
  · exact absurd h (by simp)
  · exact h

/-! ### The account -/

/-- R31: an entry of the stream that was ISSUED in `s` is not in the PQ of `u`. -/
def failedSince (s u : State) (i : StreamNo) : Prop :=
  ∃ e ∈ s.pq, e.stream = i ∧ e.isIssued = true ∧ ∀ x ∈ u.pq, x.id ≠ e.id

/-- R31: FAULT_MARKS went up, or stands at its maximum. -/
def faultCounted (s u : State) : Prop :=
  s.counter .faultMarks < u.counter .faultMarks ∨ 0xFFFFFFFF ≤ s.counter .faultMarks

/-- A PQ entry of that id was ISSUED in `s`. -/
def wasIssued (s : State) (id : Nat) : Prop :=
  ∃ e ∈ s.pq, e.id = id ∧ e.isIssued = true

/-- A failing response is among the commands taken. -/
def faultTaken (taken : List Instr) : Prop :=
  ∃ tag, .writeResponse tag .fault ∈ taken

/-- A CLEAR is among the commands taken. -/
def clearTaken (taken : List Instr) : Prop :=
  ∃ tail, .clear tail ∈ taken

/-- A CLEAR FAULT is among the commands taken. -/
def clearFaultTaken (taken : List Instr) : Prop :=
  ∃ tail, .clearFault tail ∈ taken

/-- What holds of a state `u` in the course of a command that began in `s`, with the commands `taken` up to then. The names of the entries of
`s` are not given again, and a tag owned by a PQ entry either has an owner that was ISSUED in `s`, or was granted since and has counted at most
`age` ticks, which are too few for it to expire (R73, R81). So a mark that is set is that of an entry that failed (R31). -/
structure FaultAccount (s : State) (taken : List Instr) (age : Nat) (u : State) : Prop where
  young : age < 10
  distinct : (u.pq.map PqEntry.id).Nodup
  fresh : ∀ x ∈ u.pq, x.id < u.nextId
  old : ∀ e ∈ s.pq, e.id < u.nextId
  stream : ∀ x ∈ u.pq, ∀ e ∈ s.pq, e.id = x.id → e.stream = x.stream
  owner : ∀ (t : TagNo) (id : Nat) (timer : Timer), u.tags[t] = .busy (.pqEntry id) timer →
    wasIssued s id ∨ (timer.count ≤ age ∧ 10 ≤ timer.limit)
  memTimeout : 10 ≤ u.timers.memTimeout
  set : ∀ i : StreamNo, s.streams[i].faultMark = false → u.streams[i].faultMark = true → failedSince s u i ∨ faultTaken taken
  counted : ∀ i : StreamNo, s.streams[i].faultMark = false → u.streams[i].faultMark = true →
    faultCounted s u ∨ clearTaken taken
  cleared : ∀ i : StreamNo, s.streams[i].faultMark = true → u.streams[i].faultMark = false →
    clearTaken taken ∨ clearFaultTaken taken
  counter : s.counter .faultMarks ≤ u.counter .faultMarks ∨ clearTaken taken

/-- R69: the owner of a tag is ISSUED. -/
theorem wasIssued_of_owner {s : State} (hinv : Inv s) {t : TagNo} {id : Nat} {timer : Timer}
    (h : s.tags[t] = .busy (.pqEntry id) timer) : wasIssued s id := by
  have howner := hinv.tags.1 t
  simp only [ownerAgrees, h, List.any_eq_true, Bool.and_eq_true, beq_iff_eq] at howner
  obtain ⟨e, he, hid, hstate⟩ := howner
  exact ⟨e, he, hid, e.isIssued_iff.mpr ⟨t, hstate⟩⟩

namespace FaultAccount

variable {s u v : State} {taken : List Instr} {age : Nat}

/-- The account at the start of a command. -/
theorem start (hinv : Inv s) : FaultAccount s taken 0 s where
  young := by decide
  distinct := hinv.distinct.1
  fresh := hinv.distinct.2.2.1
  old := hinv.distinct.2.2.1
  stream x hx e he hid := by rw [List.inj_on_of_nodup_map hinv.distinct.1 he hx hid]
  owner _ _ _ ht := .inl (wasIssued_of_owner hinv ht)
  memTimeout := hinv.items.2.2.2.2.2.1
  set i hs hu := absurd (hs.symm.trans hu) (by decide)
  counted i hs hu := absurd (hs.symm.trans hu) (by decide)
  cleared i hs hu := absurd (hs.symm.trans hu) (by decide)
  counter := .inl le_rfl

theorem failedSince_of_mem {i : StreamNo} (h : failedSince s u i)
    (hmem : ∀ x ∈ v.pq, (∃ y ∈ u.pq, y.id = x.id) ∨ ∀ e ∈ s.pq, e.id < x.id) : failedSince s v i := by
  obtain ⟨e, he, hstream, hissued, hgone⟩ := h
  refine ⟨e, he, hstream, hissued, fun x hx hid => ?_⟩
  rcases hmem x hx with ⟨y, hy, hyx⟩ | hlt
  · exact hgone y hy (hyx.trans hid)
  · exact absurd (hlt e he) (by omega)

/-- An operation that moves no mark keeps the account. -/
theorem quiet (h : FaultAccount s taken age u) (hq : MarksQuiet u v) : FaultAccount s taken age v where
  young := h.young
  distinct := h.distinct.sublist hq.ids
  fresh x hx := by
    obtain ⟨y, hy, hid, -⟩ := hq.mem_pq hx
    exact hid ▸ (h.fresh y hy).trans_le hq.nextId
  old e he := (h.old e he).trans_le hq.nextId
  stream x hx e he hid := by
    obtain ⟨y, hy, hyid, hystream⟩ := hq.mem_pq hx
    exact (h.stream y hy e he (hid.trans hyid.symm)).trans hystream
  owner t id timer ht := h.owner t id timer (hq.owner t id timer ht)
  memTimeout := hq.memTimeout h.memTimeout
  set i hs hv := by
    rcases h.set i hs (hq.marks i ▸ hv) with hfailed | hfault
    · refine .inl (failedSince_of_mem hfailed fun x hx => .inl ?_)
      obtain ⟨y, hy, hid, -⟩ := hq.mem_pq hx
      exact ⟨y, hy, hid⟩
    · exact .inr hfault
  counted i hs hv := by
    rw [faultCounted, hq.counter]
    exact h.counted i hs (hq.marks i ▸ hv)
  cleared i hs hv := h.cleared i hs (hq.marks i ▸ hv)
  counter := hq.counter ▸ h.counter

/-- The account does not speak of the events that wait. -/
theorem setHeld (h : FaultAccount s taken age u) (x : List HeldEvent) : FaultAccount s taken age (u.setHeld x) :=
  { h with }

theorem setPortWaiting (h : FaultAccount s taken age u) (x : List PortEvent) :
    FaultAccount s taken age (u.setPortWaiting x) :=
  { h with }

/-- R1: a new entry has a name that none had before. -/
theorem append (h : FaultAccount s taken age u) (i : StreamNo) (l : Line) (bytes : ByteSet) (kind : EntryKind)
    (state : EntryState) : FaultAccount s taken age (appendEntry i l bytes kind state u) := by
  have hmem : ∀ x ∈ (appendEntry i l bytes kind state u).pq, x ∈ u.pq ∨ x.id = u.nextId := by
    intro x hx
    rcases List.mem_append.mp hx with hx | hx
    · exact .inl hx
    · exact .inr (congrArg PqEntry.id (List.mem_singleton.mp hx))
  have hnext : (appendEntry i l bytes kind state u).nextId = u.nextId + 1 := rfl
  refine { h with distinct := ?_, fresh := ?_, old := ?_, stream := ?_, set := ?_ }
  · have hids : (appendEntry i l bytes kind state u).pq.map PqEntry.id = u.pq.map PqEntry.id ++ [u.nextId] :=
      List.map_append
    rw [hids, List.nodup_append]
    refine ⟨h.distinct, List.nodup_singleton _, fun a ha b hb hab => ?_⟩
    obtain ⟨x, hx, rfl⟩ := List.mem_map.mp ha
    have hlt := h.fresh x hx
    rw [List.mem_singleton.mp hb] at hab
    omega
  · intro x hx
    rcases hmem x hx with hx | hid
    · have := h.fresh x hx
      omega
    · omega
  · intro e he
    have := h.old e he
    omega
  · intro x hx e he hid
    rcases hmem x hx with hx | hnew
    · exact h.stream x hx e he hid
    · have := h.old e he
      omega
  · intro j hs hv
    rcases h.set j hs hv with hfailed | hfault
    · refine .inl (failedSince_of_mem hfailed fun x hx => ?_)
      rcases hmem x hx with hx | hnew
      · exact .inl ⟨x, hx, rfl⟩
      · exact .inr fun e he => hnew ▸ h.old e he
    · exact .inr hfault

/-- R73: the tag of a grant starts at 0 with MEM_TIMEOUT as its limit. -/
theorem grant (h : FaultAccount s taken age u) (t : TagNo) (e : PqEntry) :
    FaultAccount s taken age (grantWrite t e u) := by
  have htag : FaultAccount s taken age (setTag t (.busy (.pqEntry e.id) (Timer.start u.timers.memTimeout)) u) := by
    refine { h with owner := fun k id timer hk => ?_ }
    rw [setTag_get] at hk
    split at hk
    · simp only [Tag.busy.injEq] at hk
      obtain ⟨-, rfl⟩ := hk
      exact .inr ⟨Nat.zero_le _, h.memTimeout⟩
    · exact h.owner k id timer hk
  have hkeep (x : PqEntry) :
      (if x.id = e.id then { x with state := .issued t } else x).idAndStream = x.idAndStream := by
    unfold PqEntry.idAndStream
    split <;> rfl
  have hsend (w : State) (r : LinkRequest) : MarksQuiet w (sendRequest r (w.setLastGranted .write)) :=
    .of_eq rfl
  exact htag.quiet ((MarksQuiet.setPq_map _ fun x _ => hkeep x).trans (hsend _ _))

/-- The account after a change of the marks and of FAULT_MARKS, with its clauses on these. -/
theorem remark (h : FaultAccount s taken age u) (hpq : v.pq = u.pq) (hid : v.nextId = u.nextId) (htags : v.tags = u.tags)
    (htimers : v.timers = u.timers)
    (hset : ∀ i : StreamNo, s.streams[i].faultMark = false → v.streams[i].faultMark = true → failedSince s v i ∨ faultTaken taken)
    (hcounted : ∀ i : StreamNo, s.streams[i].faultMark = false → v.streams[i].faultMark = true →
      faultCounted s v ∨ clearTaken taken)
    (hcleared : ∀ i : StreamNo, s.streams[i].faultMark = true → v.streams[i].faultMark = false →
      clearTaken taken ∨ clearFaultTaken taken)
    (hcounter : s.counter .faultMarks ≤ v.counter .faultMarks ∨ clearTaken taken) : FaultAccount s taken age v where
  young := h.young
  distinct := hpq ▸ h.distinct
  fresh := by rw [hpq, hid]; exact h.fresh
  old := hid ▸ h.old
  stream := hpq ▸ h.stream
  owner := htags ▸ h.owner
  memTimeout := htimers ▸ h.memTimeout
  set := hset
  counted := hcounted
  cleared := hcleared
  counter := hcounter

/-- R31: the mark of a stream is set and counted, an entry of it having failed. -/
theorem mark (h : FaultAccount s taken age u) {i : StreamNo} (hcause : failedSince s u i ∨ faultTaken taken) :
    FaultAccount s taken age (markFault i u) := by
  have hkeep : ∀ x ∈ u.pq, (x.voidMarkedBy i).idAndStream = x.idAndStream := fun x _ => by simp [PqEntry.idAndStream]
  have hmem : ∀ x ∈ (markFault i u).pq, ∃ y ∈ u.pq, y.id = x.id := fun x hx => by
    obtain ⟨y, hy, hid, -⟩ := (MarksQuiet.setPq_map u hkeep).mem_pq hx
    exact ⟨y, hy, hid⟩
  have hfailed {j : StreamNo} (hj : failedSince s u j) : failedSince s (markFault i u) j :=
    failedSince_of_mem hj fun x hx => .inl (hmem x hx)
  have hcounter : (markFault i u).counter .faultMarks = saturatingSucc 0xFFFFFFFF (u.counter .faultMarks) := by
    rw [markFault, bump_counter, if_pos rfl]
    rfl
  have hget (j : StreamNo) : (markFault i u).streams[j].faultMark = if j = i then true else u.streams[j].faultMark := by
    have hone := setStream_get i j { u.streams[i] with faultMark := true } u
    exact (congrArg StreamRecord.faultMark hone).trans (by split <;> rfl)
  have hquiet : FaultAccount s taken age (u.setPq (u.pq.map (PqEntry.voidMarkedBy i))) :=
    h.quiet (.setPq_map u hkeep)
  refine hquiet.remark rfl rfl rfl rfl (fun j hs hv => ?_) (fun j _ _ => ?_) (fun j hs hv => ?_) ?_
  · rw [hget] at hv
    rcases eq_or_ne j i with rfl | hj
    · exact hcause.imp hfailed id
    · exact (h.set j hs (by simpa [hj] using hv)).imp hfailed id
  · refine h.counter.imp (fun hle => ?_) id
    rw [faultCounted, hcounter, saturatingSucc]
    split <;> omega
  · rw [hget] at hv
    by_cases hj : j = i
    · simp [hj] at hv
    · exact h.cleared j hs (by simpa [hj] using hv)
  · exact h.counter.imp (fun hle => hcounter ▸ hle.trans (le_saturatingSucc ..)) id

/-- R20: where the names are distinct, the entry of a name is no longer in the PQ when it has left. -/
theorem id_ne_of_leavePq (h : FaultAccount s taken age u) (id : Nat) : ∀ x ∈ (leavePq id u).pq, x.id ≠ id := by
  intro x hx hid
  have hids : (leavePq id u).pq.map PqEntry.id = (u.pq.map PqEntry.id).erase id := by
    rw [List.erase_eq_eraseP, List.eraseP_map]
    exact congrArg (fun p => (u.pq.eraseP p).map PqEntry.id) (funext fun e => by simp [eq_comm])
  have hmem : x.id ∈ (u.pq.map PqEntry.id).erase id := hids ▸ List.mem_map_of_mem hx
  exact (h.distinct.mem_erase_iff.mp hmem).1 hid

/-- R31: an entry leaves failed that was ISSUED at the start, or whose failing response was taken. -/
theorem fail (h : FaultAccount s taken age u) {e : PqEntry} (he : e ∈ u.pq) (hcause : wasIssued s e.id ∨ faultTaken taken) :
    FaultAccount s taken age (failEntry e u) := by
  have hleft := h.quiet ((marksQuiet_leavePq e.id u).trans (marksQuiet_bump (c := .entriesFailed) (by decide) _))
  have hfailed : wasIssued s e.id → failedSince s (bump .entriesFailed (leavePq e.id u)) e.stream := by
    rintro ⟨e0, he0, hid, hissued⟩
    exact ⟨e0, he0, h.stream e he e0 he0 hid, hissued, fun x hx => hid ▸ h.id_ne_of_leavePq e.id x hx⟩
  exact (hleft.mark (hcause.imp hfailed id)).quiet ((marksQuiet_noticeOfLeaving ..).trans (marksQuiet_afterLeaving _))

/-- R126: CLEAR. -/
theorem clear (h : FaultAccount s taken age u) (htaken : clearTaken taken) : FaultAccount s taken age (clearAll u) :=
  h.remark (clearAll_pq u) (clearAll_nextId u) (clearAll_tags u) (clearAll_timers u)
    (fun i _ hv => absurd ((clearAll_faultMark u i).symm.trans hv) (by decide)) (fun _ _ _ => .inr htaken)
    (fun _ _ _ => .inl htaken) (.inr htaken)

/-- R39: CLEAR FAULT. -/
theorem clearFault (h : FaultAccount s taken age u) (htaken : clearFaultTaken taken) (data : List Byte) :
    FaultAccount s taken age
      (mapStreams (fun i rec => if inStreamSet data i then { rec with faultMark := false } else rec) u) := by
  have hmark := faultMark_of_clearFault data u
  exact h.remark rfl rfl rfl rfl (fun i hs hv => h.set i hs (hmark i hv)) (fun i hs hv => h.counted i hs (hmark i hv))
    (fun _ _ _ => .inr htaken) h.counter

end FaultAccount

/-! ### Operations that keep the account -/

/-- An operation from `u` to `v` keeps every account with the commands taken, and the events that wait. -/
def KeepsAccount (taken : List Instr) (u v : State) : Prop :=
  (∀ s age, FaultAccount s taken age u → FaultAccount s taken age v) ∧ v.held = u.held ∧ v.portWaiting = u.portWaiting

namespace KeepsAccount

variable {taken : List Instr} {u v w : State}

theorem trans (h : KeepsAccount taken u v) (h' : KeepsAccount taken v w) : KeepsAccount taken u w :=
  ⟨fun s age hu => h'.1 s age (h.1 s age hu), h'.2.1.trans h.2.1, h'.2.2.trans h.2.2⟩

theorem of_quiet (h : MarksQuiet u v) : KeepsAccount taken u v :=
  ⟨fun _ _ hu => hu.quiet h, h.held, h.portWaiting⟩

theorem refl (u : State) : KeepsAccount taken u u :=
  of_quiet (.refl u)

theorem foldl {α : Type} {f : State → α → State} (h : ∀ a u, KeepsAccount taken u (f u a)) (l : List α) (u : State) :
    KeepsAccount taken u (l.foldl f u) := by
  induction l generalizing u with
  | nil => exact refl u
  | cons a l ih => exact (h a u).trans (ih _)

end KeepsAccount

/-- The failure of an entry leaves the events that wait. -/
theorem failEntry_waiting (e : PqEntry) (u : State) :
    (failEntry e u).held = u.held ∧ (failEntry e u).portWaiting = u.portWaiting := by
  have hbefore := (marksQuiet_leavePq e.id u).trans (marksQuiet_bump (c := .entriesFailed) (by decide) _)
  have hafter := (marksQuiet_noticeOfLeaving e .failed
    (markFault e.stream (bump .entriesFailed (leavePq e.id u)))).trans (marksQuiet_afterLeaving _)
  exact ⟨hafter.held.trans hbefore.held, hafter.portWaiting.trans hbefore.portWaiting⟩

theorem mem_of_findPq {pq : List PqEntry} {id : Nat} {e : PqEntry} (h : findPq pq id = some e) : e ∈ pq ∧ e.id = id :=
  ⟨List.mem_of_find?_eq_some h, by simpa using List.find?_some h⟩

/-- R75: a Write Response fails its entry, or moves no mark. -/
theorem takeWriteResponse_cases (t : TagNo) (st : ResponseStatus) (u : State) :
    MarksQuiet u (takeWriteResponse t st u) ∨
      ∃ e ∈ u.pq, ∃ timer v, u.tags[t] = .busy (.pqEntry e.id) timer ∧ st = .fault ∧ MarksQuiet u v ∧ v.pq = u.pq ∧
        takeWriteResponse t st u = failEntry e v := by
  have hfree : MarksQuiet u (setTag t .free u) := marksQuiet_setTag t u (by simp)
  unfold takeWriteResponse
  split
  · rename_i id timer htag
    unfold endWrite
    split
    · exact .inl (hfree.trans (marksQuiet_retireEntry ..))
    · rename_i e hfind
      obtain ⟨he, hid⟩ := mem_of_findPq hfind
      have hreport := marksQuiet_offerError (.writeFault e.stream e.line t) (setTag t .free u)
      refine .inr ⟨e, he, timer, _, hid ▸ htag, rfl, hfree.trans hreport, ?_, rfl⟩
      rw [offerError_frame]
      rfl
    · exact .inl hfree
  · exact .inl (marksQuiet_unexpectedResponse t u)
  · exact .inl (marksQuiet_unexpectedResponse t u)
  · exact .inl (marksQuiet_lateResponse t u)
  · exact .inl (marksQuiet_unexpectedResponse t u)

theorem keepsAccount_takeWriteResponse {taken : List Instr} (t : TagNo) (st : ResponseStatus) (u : State)
    (h : .writeResponse t st ∈ taken) : KeepsAccount taken u (takeWriteResponse t st u) := by
  rcases takeWriteResponse_cases t st u with hq | ⟨e, he, timer, v, -, rfl, hq, hpq, heq⟩
  · exact .of_quiet hq
  · obtain ⟨hheld, hport⟩ := failEntry_waiting e v
    rw [heq]
    exact ⟨fun s age hu => (hu.quiet hq).fail (hpq ▸ he) (.inr ⟨t, h⟩), hheld.trans hq.held, hport.trans hq.portWaiting⟩

/-- R81: a memory time-out fails the entry that owns a due tag, or moves no mark. -/
theorem expireMemory_marks (t : TagNo) (u : State) :
    MarksQuiet u (expireMemory t u) ∨
      ∃ e ∈ u.pq, ∃ timer v, u.tags[t] = .busy (.pqEntry e.id) timer ∧ timer.due = true ∧ MarksQuiet u v ∧ v.pq = u.pq ∧
        expireMemory t u = recordExhausted (failEntry e v) := by
  rcases expireMemory_cases t u with h | ⟨o, timer, htag, hdue, h⟩
  · rw [h]; exact .inl (.refl u)
  · have hlapse : MarksQuiet u (bump .memTimeouts (setTag t .lapsed u)) :=
      (marksQuiet_setTag t u (by simp)).trans (marksQuiet_bump (by decide) _)
    rw [h]
    unfold tellOwnerLapsed
    split
    · split
      · rename_i id e hfind
        obtain ⟨he, hid⟩ := mem_of_findPq hfind
        refine .inr ⟨e, he, timer, _, hid ▸ htag, hdue, hlapse.trans (marksQuiet_offerError ..), ?_, rfl⟩
        rw [offerError_frame]
        rfl
      · exact .inl (hlapse.trans (marksQuiet_recordExhausted _))
    · split
      · exact .inl ((hlapse.trans ((marksQuiet_offerError ..).trans (marksQuiet_parkFetched ..))).trans
          (marksQuiet_recordExhausted _))
      · exact .inl (hlapse.trans (marksQuiet_recordExhausted _))
    · exact .inl (hlapse.trans (marksQuiet_recordExhausted _))

theorem keepsAccount_expireMemory {taken : List Instr} (t : TagNo) (u : State) :
    KeepsAccount taken u (expireMemory t u) := by
  rcases expireMemory_marks t u with hq | ⟨e, he, timer, v, htag, hdue, hq, hpq, heq⟩
  · exact .of_quiet hq
  · have hexhausted := marksQuiet_recordExhausted (failEntry e v)
    obtain ⟨hheld, hport⟩ := failEntry_waiting e v
    rw [heq]
    refine ⟨fun s age hu => ?_, hexhausted.held.trans (hheld.trans hq.held),
      hexhausted.portWaiting.trans (hport.trans hq.portWaiting)⟩
    have hissued : wasIssued s e.id := by
      refine (hu.owner t e.id timer htag).resolve_right fun ⟨hcount, hlimit⟩ => ?_
      have hyoung := hu.young
      simp only [Timer.due, decide_eq_true_eq] at hdue
      omega
    exact ((hu.quiet hq).fail (hpq ▸ he) (.inl hissued)).quiet hexhausted

theorem keepsAccount_grantOnce {taken : List Instr} (u : State) : KeepsAccount taken u (grantOnce u) := by
  rcases grantOnce_cases u with ⟨-, h⟩ | ⟨-, t, -, ⟨e, -, h⟩ | ⟨p, -, h⟩⟩
  · rw [h]; exact .refl u
  · rw [h]; exact ⟨fun s age hu => hu.grant t e, rfl, rfl⟩
  · rw [h]; exact .of_quiet (marksQuiet_grantRead t p u)

theorem keepsAccount_takeDueGrants {taken : List Instr} (u : State) : KeepsAccount taken u (takeDueGrants u) :=
  .foldl (fun _ v => keepsAccount_grantOnce v) _ u

theorem keepsAccount_takeDueExpiries {taken : List Instr} (u : State) : KeepsAccount taken u (takeDueExpiries u) := by
  have hmemory (l : List TagNo) := KeepsAccount.foldl (taken := taken) (f := fun v t => expireMemory t v)
    (fun t v => keepsAccount_expireMemory t v) l
  have hage (l : List StreamNo) := KeepsAccount.foldl (taken := taken) (f := fun v i => expireCombineAge i v)
    (fun i v => .of_quiet (marksQuiet_expireCombineAge i v)) l
  have hclaim (l : List PrtEntry) := KeepsAccount.foldl (taken := taken) (f := fun v p => expireClaim p.stream p.line v)
    (fun p v => .of_quiet (marksQuiet_expireClaim p.stream p.line v)) l
  have hlinger (l : List PrtEntry) := KeepsAccount.foldl (taken := taken) (f := fun v p => expireLinger p.stream p.line v)
    (fun p v => .of_quiet (marksQuiet_expireLinger p.stream p.line v)) l
  exact (((hmemory allTags u).trans (hage allStreams _)).trans (hclaim _ _)).trans (hlinger _ _)

theorem keepsAccount_takeDue {taken : List Instr} (u : State) : KeepsAccount taken u (takeDue u) :=
  (keepsAccount_takeDueExpiries u).trans (keepsAccount_takeDueGrants _)

/-! ### A WRITE -/

theorem keepsAccount_appendEntry {taken : List Instr} (i : StreamNo) (l : Line) (bytes : ByteSet) (kind : EntryKind)
    (state : EntryState) (u : State) : KeepsAccount taken u (appendEntry i l bytes kind state u) :=
  ⟨fun _ _ hu => hu.append i l bytes kind state, rfl, rfl⟩

theorem keepsAccount_appendFor {taken : List Instr} (tr : WriteTreatment) (i : StreamNo) (l : Line) (bytes : ByteSet)
    (w : WindowNo) (notify : Bool) (u : State) : KeepsAccount taken u (appendFor tr i l bytes w notify u) := by
  cases tr with
  | post => exact keepsAccount_appendEntry ..
  | release => exact keepsAccount_appendEntry ..
  | refuse => exact .refl u
  | merge =>
    show KeepsAccount taken u (appendMerge i l bytes u)
    unfold appendMerge
    split <;> exact (keepsAccount_appendEntry ..).trans (.of_quiet (marksQuiet_setOpenEntry ..))

theorem keepsAccount_postNewEntry {taken : List Instr} (tr : WriteTreatment) (i : StreamNo) (l : Line) (bytes : ByteSet)
    (w : WindowNo) (notify : Bool) (u : State) : KeepsAccount taken u (postNewEntry tr i l bytes w notify u) := by
  unfold postNewEntry
  split
  · exact ((KeepsAccount.of_quiet (marksQuiet_sealsBeforeAppend i l u)).trans (keepsAccount_appendFor ..)).trans
      (.of_quiet (((MarksQuiet.setPrt _ _).trans (marksQuiet_voidPass _)).trans (marksQuiet_answerAccept _)))
  · exact .of_quiet (marksQuiet_answerRetry _ u)

theorem keepsAccount_postWrite {taken : List Instr} (tr : WriteTreatment) (i : StreamNo) (l : Line) (bytes : ByteSet)
    (w : WindowNo) (notify : Bool) (u : State) : KeepsAccount taken u (postWrite tr i l bytes w notify u) := by
  unfold postWrite
  split
  · exact .of_quiet (((marksQuiet_mergeInto _ bytes u).trans (.setPrt _ _)).trans (marksQuiet_answerAccept _))
  · exact keepsAccount_postNewEntry ..

theorem keepsAccount_writeTransaction {taken : List Instr} (i : StreamNo) (a : Address) (data : List Byte) (u : State) :
    KeepsAccount taken u (writeTransaction i a data u) := by
  have habort (r : ErrorRecord) : KeepsAccount taken u (answerAbort (offerError r u)) :=
    .of_quiet ((marksQuiet_offerError r u).trans (marksQuiet_answerAbort _))
  unfold writeTransaction
  split
  · exact habort _
  · split
    · exact habort _
    · split
      · exact habort _
      · unfold checkStateAndHold
        split
        · exact .of_quiet (marksQuiet_answerRetry _ u)
        · split
          · exact .of_quiet (marksQuiet_answerRetry _ u)
          · exact keepsAccount_postWrite ..

/-! ### A frame -/

theorem keepsAccount_rowAction {taken : List Instr} {c : Instr} (h : c ∈ taken) (r : FrameRequest) (u : State) :
    KeepsAccount taken u (rowAction c r u).1 := by
  rcases rowAction_marks c r u with hq | ⟨tail, rfl, heq⟩ | ⟨tail, rfl, heq⟩
  · exact .of_quiet hq
  · rw [heq]
    exact ⟨fun _ _ hu => hu.clear ⟨tail, h⟩, clearAll_held u, clearAll_portWaiting u⟩
  · rw [heq]
    exact ⟨fun _ _ hu => hu.clearFault ⟨tail, h⟩ r.data, rfl, rfl⟩

theorem keepsAccount_takeFrame {taken : List Instr} {c : Instr} (h : c ∈ taken) (f : Frame) (u : State) :
    KeepsAccount taken u (takeFrame c f u) := by
  rcases takeFrame_cases c f u with ⟨-, heq⟩ | ⟨r, -, heq⟩
  · rw [heq]; exact .of_quiet (marksQuiet_setReply ..)
  · rw [heq]; exact (keepsAccount_rowAction h r u).trans (.of_quiet (marksQuiet_setReply ..))

end Sys2Proof.Machine

/-! ## The fault marks over every command (R26, R31): a cycle with the events it takes up (R162), a frame, and the rest. -/

namespace Sys2Proof.Machine

/-! ### A cycle and the events that wait -/

theorem PqEntry.advanced_idAndStream (e : PqEntry) : e.advanced.idAndStream = e.idAndStream := by
  obtain ⟨id, i, l, bytes, kind, state⟩ := e
  cases state <;> rfl

theorem marksQuiet_clearOutputs (u : State) : MarksQuiet u (clearOutputs u) :=
  .of_eq rfl

/-- The account in the course of a cycle, in which the commands that still wait are among those taken. -/
structure CycleAccount (s : State) (taken : List Instr) (age : Nat) (u : State) : Prop where
  account : FaultAccount s taken age u
  waiting : ∀ d ∈ waitingCommands u, d ∈ taken

namespace CycleAccount

variable {s u v : State} {taken : List Instr} {age : Nat}

theorem keep (h : CycleAccount s taken age u) (hk : KeepsAccount taken u v) : CycleAccount s taken age v where
  account := hk.1 s age h.account
  waiting := by
    rw [waitingCommands, hk.2.1, hk.2.2]
    exact h.waiting

theorem quiet (h : CycleAccount s taken age u) (hq : MarksQuiet u v) : CycleAccount s taken age v :=
  h.keep (.of_quiet hq)

theorem setHeld (h : CycleAccount s taken age u) {x : List HeldEvent}
    (hx : ∀ d ∈ x.filterMap HeldEvent.command, d ∈ taken) : CycleAccount s taken age (u.setHeld x) where
  account := h.account.setHeld x
  waiting d hd := (List.mem_append.mp hd).elim (hx d) fun hport => h.waiting d (List.mem_append_right _ hport)

theorem setPortWaiting (h : CycleAccount s taken age u) {x : List PortEvent}
    (hx : ∀ d ∈ x.filterMap PortEvent.command, d ∈ taken) : CycleAccount s taken age (u.setPortWaiting x) where
  account := h.account.setPortWaiting x
  waiting d hd := (List.mem_append.mp hd).elim (fun hheld => h.waiting d (List.mem_append_left _ hheld)) (hx d)

theorem of_held (h : CycleAccount s taken age u) : ∀ d ∈ u.held.filterMap HeldEvent.command, d ∈ taken :=
  fun d hd => h.waiting d (List.mem_append_left _ hd)

theorem of_portWaiting (h : CycleAccount s taken age u) : ∀ d ∈ u.portWaiting.filterMap PortEvent.command, d ∈ taken :=
  fun d hd => h.waiting d (List.mem_append_right _ hd)

theorem holdEvent (h : CycleAccount s taken age u) {x : HeldEvent} (hx : ∀ d, x.command = some d → d ∈ taken) :
    CycleAccount s taken age (holdEvent x u) :=
  h.setHeld fun d hd => by
    rw [List.filterMap_append, List.mem_append] at hd
    exact hd.elim (h.of_held d) fun hnew => by
      obtain ⟨y, hy, hyd⟩ := List.mem_filterMap.mp hnew
      exact hx d (List.mem_singleton.mp hy ▸ hyd)

theorem waitAtPort (h : CycleAccount s taken age u) {events : List PortEvent}
    (hevents : ∀ d ∈ events.filterMap PortEvent.command, d ∈ taken) : CycleAccount s taken age (waitAtPort events u) :=
  h.setPortWaiting fun d hd => by
    rw [List.filterMap_append, List.mem_append] at hd
    exact hd.elim (h.of_portWaiting d) (hevents d)

theorem holdFrameEnd (h : CycleAccount s taken age u) {c : Instr} (hc : c ∈ taken) (f : Frame) :
    CycleAccount s taken age (holdFrameEnd c f u) := by
  have hended := h.quiet (marksQuiet_frameEnded f u)
  rcases holdFrameEnd_cases c f u with ⟨-, heq⟩ | ⟨-, heq⟩
  · rw [heq]
    exact hended.holdEvent fun d hd => by simp [HeldEvent.command] at hd
  · rw [heq]
    exact hended.holdEvent fun d hd => by
      simp only [HeldEvent.command, Option.some.injEq] at hd
      exact hd ▸ hc

/-- R148: the port looks at what waits on it. -/
theorem resumePort (h : CycleAccount s taken age u) (events : List PortEvent)
    (hevents : ∀ d ∈ events.filterMap PortEvent.command, d ∈ taken) : CycleAccount s taken age (resumePort events u) := by
  induction events generalizing u with
  | nil => exact h.setPortWaiting (by simp)
  | cons e rest ih =>
    have hrest : ∀ d ∈ rest.filterMap PortEvent.command, d ∈ taken := fun d hd =>
      hevents d (((List.sublist_cons_self e rest).filterMap _).subset hd)
    cases e with
    | edge e => exact ih (h.quiet (marksQuiet_portEdges [e] u)) hrest
    | frameEnd c =>
      have hc : c ∈ taken := hevents c (by simp [PortEvent.command])
      unfold Machine.resumePort
      split
      · exact (h.holdFrameEnd hc _).setPortWaiting hrest
      · exact ih h hrest

theorem takeHeldFrame (h : CycleAccount s taken age u) {c : Instr} (hc : c ∈ taken) :
    CycleAccount s taken age (takeHeldFrame c u) := by
  unfold Machine.takeHeldFrame
  split
  · exact (h.keep (keepsAccount_takeFrame hc _ u)).resumePort _ h.of_portWaiting
  · exact h

/-- R162: a held event is taken. -/
theorem takeEvent (h : CycleAccount s taken age u) {x : HeldEvent} (hx : ∀ d, x.command = some d → d ∈ taken) :
    CycleAccount s taken age (takeEvent x u) := by
  unfold Machine.takeEvent
  split
  · exact (h.quiet (marksQuiet_takeSpoiledFrame u)).resumePort _ h.of_portWaiting
  · exact h.keep (keepsAccount_writeTransaction ..)
  · exact h.quiet (marksQuiet_readTransaction ..)
  · exact h.keep (keepsAccount_takeWriteResponse _ _ u (hx _ rfl))
  · exact h.quiet (marksQuiet_takeReadResponse ..)
  · exact h.takeHeldFrame (hx _ rfl)

theorem takeOldestHeld (h : CycleAccount s taken age u) : CycleAccount s taken age (takeOldestHeld u) := by
  rcases takeOldestHeld_cases u with ⟨-, heq⟩ | ⟨x, rest, hheld, heq⟩
  · rw [heq]
    exact h
  · have hall : ∀ d ∈ (x :: rest).filterMap HeldEvent.command, d ∈ taken := hheld ▸ h.of_held
    have hrest : CycleAccount s taken age (u.setHeld rest) :=
      h.setHeld fun d hd => hall d (((List.sublist_cons_self x rest).filterMap _).subset hd)
    rw [heq]
    refine (hrest.takeEvent fun d hd => hall d ?_).keep (keepsAccount_takeDueGrants _)
    exact List.mem_filterMap.mpr ⟨x, List.mem_cons_self, hd⟩

theorem takeHeldUpTo (h : CycleAccount s taken age u) (n : Nat) : CycleAccount s taken age (takeHeldUpTo n u) := by
  induction n generalizing u with
  | zero => exact h
  | succ n ih => exact ih h.takeOldestHeld

theorem takeWaiting (h : CycleAccount s taken age u) : CycleAccount s taken age (takeWaiting u) := by
  unfold Machine.takeWaiting takeAllHeld
  exact ((h.quiet (marksQuiet_clearOutputs u)).keep (keepsAccount_takeDue _)).takeHeldUpTo _

/-- R148: edges hold no command. -/
theorem takeInput (h : CycleAccount s taken age u) : CycleAccount s taken age (takeInput u) := by
  have hinput : CycleAccount s taken age (u.setCycleInputs u.cycleInputs.tail) :=
    h.quiet (.of_eq rfl)
  unfold Machine.takeInput
  rcases edgesArrive_cases u.nextInput.edges (u.setCycleInputs u.cycleInputs.tail) with ⟨-, -, heq⟩ | ⟨-, heq⟩
  · rw [heq]
    exact hinput.waitAtPort fun d hd => by simp [PortEvent.command] at hd
  · rw [heq]
    exact hinput.quiet (marksQuiet_portEdges ..)

/-- The account after a change of the tags, with its clause on these. -/
theorem setTags (h : CycleAccount s taken age u) {later : Nat} {x : Vector Tag 16} (hyoung : later < 10)
    (howner : ∀ (t : TagNo) (id : Nat) (timer : Timer), x[t] = .busy (.pqEntry id) timer →
      wasIssued s id ∨ (timer.count ≤ later ∧ 10 ≤ timer.limit)) : CycleAccount s taken later (u.setTags x) where
  account := { h.account with young := hyoung, owner := howner }
  waiting := h.waiting

/-- R162: a tick adds at most one to the count of a tag granted since. -/
theorem advanceTimers (h : CycleAccount s taken 0 u) : CycleAccount s taken 1 (advanceTimers u) := by
  have hmoved := (MarksQuiet.setPq_map u fun e _ => e.advanced_idAndStream).trans (.setPrt _ (u.prt.map PrtEntry.advanced))
  unfold Machine.advanceTimers
  refine (h.quiet hmoved).setTags (by decide) fun t id timer ht => ?_
  have hget : (Vector.ofFn fun k : TagNo => u.tags[k].advanced)[t] = u.tags[t].advanced := by simp
  rw [hget] at ht
  cases htag : u.tags[t] with
  | free => simp [htag, Tag.advanced] at ht
  | lapsed => simp [htag, Tag.advanced] at ht
  | busy o before =>
    simp only [htag, Tag.advanced, Tag.busy.injEq] at ht
    obtain ⟨howner, htimer⟩ := ht
    rw [howner] at htag
    refine (h.account.owner t id before htag).imp_right fun hyoung => ?_
    rw [← htimer]
    rcases before.advance_cases with ⟨-, heq⟩ | ⟨-, heq⟩ <;> rw [heq]
    · exact ⟨Nat.succ_le_succ hyoung.1, hyoung.2⟩
    · exact ⟨hyoung.1.trans (Nat.zero_le 1), hyoung.2⟩

/-- A cycle without a tick is younger than one with it. -/
theorem aged (h : CycleAccount s taken 0 u) : CycleAccount s taken 1 u :=
  h.setTags (x := u.tags) (by decide) fun t id timer ht =>
    (h.account.owner t id timer ht).imp_right fun ⟨hcount, hlimit⟩ => ⟨hcount.trans (Nat.zero_le 1), hlimit⟩

theorem tickOnce (h : CycleAccount s taken 0 u) : CycleAccount s taken 1 (tickOnce u) :=
  h.takeWaiting.advanceTimers.quiet (.setTbCount _ _)

theorem refclkOnce (h : CycleAccount s taken 0 u) : CycleAccount s taken 1 (refclkOnce u) := by
  unfold Machine.refclkOnce
  split
  · exact h.tickOnce
  · exact h.takeWaiting.aged.quiet (.setTbCount _ _)

/-- R162, R60: the expiries before a stop are not those of a tag granted in the cycle. -/
theorem takeDueBeforeStop (h : CycleAccount s taken age u) (stops : Bool) :
    CycleAccount s taken age (takeDueBeforeStop stops u) := by
  rcases takeDueBeforeStop_cases stops u with ⟨-, heq⟩ | ⟨-, heq⟩
  · rw [heq]
    exact h.keep (keepsAccount_takeDue u)
  · rw [heq]
    exact h

end CycleAccount

/-- The account of a tick or a REFCLK cycle, with the commands that waited. -/
theorem faultAccount_of_cycle {c : Instr} {s t : State} (hinv : Inv s) (hc : c = .tick ∨ c = .refclkCycle)
    (hexec : exec c s = .next t) : FaultAccount s (waitingCommands s) 1 t := by
  have hstart : CycleAccount s (waitingCommands s) 0 s := ⟨.start hinv, fun _ hd => hd⟩
  rcases hc with rfl | rfl
  · cases hexec
    split
    · exact hstart.aged.account
    · exact hstart.tickOnce.account.quiet (.setRefclkStopped _ _)
  · cases hexec
    split
    · exact hstart.aged.takeInput.account.quiet (.setRefclkStopped _ _)
    · exact (hstart.takeInput.refclkOnce.takeDueBeforeStop _).account.quiet (.setRefclkStopped _ _)

/-! ### The other commands -/

theorem FaultAccount.holdEvent {s u : State} {taken : List Instr} {age : Nat} (h : FaultAccount s taken age u) (x : HeldEvent) :
    FaultAccount s taken age (holdEvent x u) :=
  h.setHeld _

theorem FaultAccount.arriveAtDeviceBus {s u : State} {taken : List Instr} {age : Nat} (h : FaultAccount s taken age u) (c : Instr)
    {take : State → State} (htake : KeepsAccount taken u (take u)) :
    FaultAccount s taken age (arriveAtDeviceBus c take u) := by
  rcases arriveAtDeviceBus_cases c take u with ⟨-, heq⟩ | ⟨-, -, -, heq⟩ | ⟨-, -, -, heq⟩ <;> rw [heq]
  · exact h
  · exact h.holdEvent _
  · exact htake.1 s age h

theorem FaultAccount.arriveAtMemoryLink {s u : State} {taken : List Instr} {age : Nat} (h : FaultAccount s taken age u) (c : Instr)
    {take : State → State} (htake : FaultAccount s taken age (take u)) :
    FaultAccount s taken age (arriveAtMemoryLink c take u) := by
  rcases arriveAtMemoryLink_cases c take u with ⟨-, heq⟩ | ⟨-, -, heq⟩ | ⟨-, -, heq⟩ <;> rw [heq]
  · exact h
  · exact h.holdEvent _
  · exact htake

/-- R69, R75: the failing response of a tag is that of an ISSUED entry. -/
theorem faultAccount_takeWriteResponse {s : State} (hinv : Inv s) (t : TagNo) (st : ResponseStatus) :
    FaultAccount s [] 0 (takeWriteResponse t st s) := by
  have hstart : FaultAccount s [] 0 s := .start hinv
  rcases takeWriteResponse_cases t st s with hq | ⟨e, he, timer, v, htag, -, hq, hpq, heq⟩
  · exact hstart.quiet hq
  · rw [heq]
    exact (hstart.quiet hq).fail (hpq ▸ he) (.inl (wasIssued_of_owner hinv htag))

/-- R116: a D-bus reset moves no mark. -/
theorem FaultAccount.assertDrstn {s u : State} {taken : List Instr} {age : Nat} (h : FaultAccount s taken age u) :
    FaultAccount s taken age (assertDrstn u) := by
  have hline : MarksQuiet u (u.setDrstn true) := .of_eq rfl
  have hreset (v : State) : MarksQuiet v (v.setBusReset true) := .of_eq rfl
  unfold Machine.assertDrstn
  split
  · exact h.quiet hline
  · split
    · exact h
    · have hfreed := (h.quiet ((hline.trans (marksQuiet_sealAll _)).trans (.setPrt _ []))).setHeld
        ((((sealAll (u.setDrstn true)).setPrt []).held).filter fun x => x.port != some .deviceBus)
      have horphan := marksQuiet_mapTags (f := Tag.orphaned) (fun r id timer hr => by
        rcases r with _ | ⟨_ | _ | _, _⟩ | _ <;> simp_all [Tag.orphaned]) (dropHeldTransactions ((sealAll (u.setDrstn true)).setPrt []))
      exact hfreed.quiet ((horphan.trans (hreset _)).trans (marksQuiet_checkDrain _))

/-- The account of a command that is no cycle, no frame and no power-on reset, with no other command taken. -/
theorem faultAccount_of_event {c : Instr} {s t : State} (hinv : Inv s) (hframe : frameOfInstr c = none)
    (hcycle : ¬(c = .tick ∨ c = .refclkCycle)) (hreset : c ≠ .powerOnReset) (hexec : exec c s = .next t) :
    FaultAccount s [] 0 t := by
  have hstart : FaultAccount s [] 0 s := .start hinv
  have hanswers : FaultAccount s [] 0 (s.setAnswers []) := hstart.quiet (.of_eq rfl)
  have hexpiry {u : State} (hu : KeepsAccount [] s u) : FaultAccount s [] 0 (if timersRun s then u else s) := by
    split
    · exact hu.1 s 0 hstart
    · exact hstart
  cases c with
  | tick => exact absurd (.inl rfl) hcycle
  | refclkCycle => exact absurd (.inr rfl) hcycle
  | powerOnReset => exact absurd rfl hreset
  | write i a data =>
    cases hexec
    exact hanswers.arriveAtDeviceBus _ (keepsAccount_writeTransaction ..)
  | read i a n =>
    cases hexec
    exact hanswers.arriveAtDeviceBus _ (.of_quiet (marksQuiet_readTransaction ..))
  | grant =>
    cases hexec
    exact (keepsAccount_grantOnce _).1 s 0 (hstart.quiet (.of_eq rfl))
  | writeResponse tag st =>
    cases hexec
    exact hstart.arriveAtMemoryLink _ (faultAccount_takeWriteResponse hinv tag st)
  | readResponse tag r =>
    cases hexec
    exact hstart.arriveAtMemoryLink _ (hstart.quiet (marksQuiet_takeReadResponse ..))
  | readyAssertion =>
    cases hexec
    exact hstart.quiet (.of_eq rfl)
  | readyDeassertion =>
    cases hexec
    exact hstart.quiet (.of_eq rfl)
  | combineAgeExpiry i =>
    cases hexec
    exact hexpiry (.of_quiet (marksQuiet_expireCombineAge i s))
  | claimTimeOut i l =>
    cases hexec
    exact hexpiry (.of_quiet (marksQuiet_expireClaim i l s))
  | lingerTimerExpiry i l =>
    cases hexec
    exact hexpiry (.of_quiet (marksQuiet_expireLinger i l s))
  | memoryTimeOut tag =>
    cases hexec
    exact hexpiry (keepsAccount_expireMemory tag s)
  | dBusReset =>
    cases hexec
    exact hstart.assertDrstn
  | releaseOfDrstn =>
    cases hexec
    exact hstart.quiet (.of_eq rfl)
  | releaseOfPorn csLow fullPulse =>
    rw [show exec (.releaseOfPorn csLow fullPulse) s = execReleaseOfPorn csLow fullPulse s from rfl, execReleaseOfPorn] at hexec
    split at hexec
    · split at hexec
      · cases hexec
        exact hstart.quiet (.of_eq rfl)
      · cases hexec
    · cases hexec
      exact hstart
  | _ => cases hframe

/-! ### Frames -/

/-- A command that has a frame is the end of it. -/
theorem exec_eq_endFrame {c : Instr} {f : Frame} (h : frameOfInstr c = some f) (s : State) : exec c s = .next (endFrame c s) := by
  cases c <;> cases h <;> rfl

theorem frameEnded_streams (f : Frame) (u : State) : (frameEnded f (u.setMisos [])).streams = u.streams := by
  simp [frameEnded]

/-- The end of a frame leaves the stream records as they were, or as the row's action leaves them. -/
theorem endFrame_streams (c : Instr) (u : State) :
    (endFrame c u).streams = u.streams ∨
      ∃ r w, w.streams = u.streams ∧ (endFrame c u).streams = (rowAction c r w).1.streams := by
  cases hf : frameOfInstr c with
  | none => exact .inl (by rw [endFrame, hf])
  | some f =>
    have hended := frameEnded_streams f u
    rw [endFrame_eq c f u hf]
    rcases arriveAtManagement_cases c f (u.setMisos []) with
      ⟨-, heq⟩ | ⟨-, -, heq⟩ | ⟨-, -, -, heq⟩ | ⟨-, -, -, heq⟩ <;> rw [heq]
    · exact .inl hended
    · rcases takeFrameEnd_cases c f (u.setMisos []) with ⟨-, heq⟩ | ⟨-, heq⟩ <;> rw [heq]
      · exact .inl hended
      · rcases takeFrame_cases c f (frameEnded f (u.setMisos [])) with ⟨-, heq⟩ | ⟨r, -, heq⟩ <;> rw [heq]
        · exact .inl hended
        · exact .inr ⟨r, _, hended, rfl⟩
    · exact .inl rfl
    · rcases holdFrameEnd_cases c f (u.setMisos []) with ⟨-, heq⟩ | ⟨-, heq⟩ <;> rw [heq] <;> exact .inl hended

/-- R39, R126: the end of a frame leaves every mark, or is a CLEAR or CLEAR FAULT and sets none. -/
theorem endFrame_marks (c : Instr) (u : State) :
    (∀ i : StreamNo, (endFrame c u).streams[i].faultMark = u.streams[i].faultMark) ∨
      ((∃ tail, c = .clear tail) ∨ ∃ tail, c = .clearFault tail) ∧
        ∀ i : StreamNo, (endFrame c u).streams[i].faultMark = true → u.streams[i].faultMark = true := by
  rcases endFrame_streams c u with heq | ⟨r, w, hw, heq⟩
  · exact .inl fun i => by rw [heq]
  · rw [heq, ← hw]
    rcases rowAction_marks c r w with hq | ⟨tail, hc, hclear⟩ | ⟨tail, hc, hclear⟩
    · exact .inl hq.marks
    · refine .inr ⟨.inl ⟨tail, hc⟩, fun i hi => ?_⟩
      rw [hclear, clearAll_faultMark] at hi
      cases hi
    · refine .inr ⟨.inr ⟨tail, hc⟩, fun i hi => ?_⟩
      rw [hclear] at hi
      exact faultMark_of_clearFault r.data w i hi

/-! ### Every command -/

/-- What the statement says of the marks of stream `i` over a command. -/
def marksMoveAsStated (c : Instr) (s t : State) (i : StreamNo) : Prop :=
  (s.streams[i].faultMark = false → t.streams[i].faultMark = true →
    (takesNoHeld c s → failedSince s t i ∧ faultCounted s t) ∧
      (failedSince s t i ∨ faultTaken (commandsTaken c s)) ∧ (faultCounted s t ∨ clearTaken (commandsTaken c s))) ∧
    (s.streams[i].faultMark = true → t.streams[i].faultMark = false →
      c = .powerOnReset ∨ clearTaken (commandsTaken c s) ∨ clearFaultTaken (commandsTaken c s))

/-- An account whose commands are among those taken, and none where no event that waits is taken. -/
theorem FaultAccount.marksMove {c : Instr} {s t : State} {taken : List Instr} {age : Nat} (h : FaultAccount s taken age t)
    (hsub : ∀ d ∈ taken, d ∈ commandsTaken c s) (hnone : takesNoHeld c s → taken = []) (i : StreamNo) :
    marksMoveAsStated c s t i := by
  have hfault : faultTaken taken → faultTaken (commandsTaken c s) := fun ⟨tag, htag⟩ => ⟨tag, hsub _ htag⟩
  have hclear : clearTaken taken → clearTaken (commandsTaken c s) := fun ⟨tail, htail⟩ => ⟨tail, hsub _ htail⟩
  have hclearFault : clearFaultTaken taken → clearFaultTaken (commandsTaken c s) := fun ⟨tail, htail⟩ => ⟨tail, hsub _ htail⟩
  refine ⟨fun hs ht => ⟨fun hno => ?_, (h.set i hs ht).imp_right hfault, (h.counted i hs ht).imp_right hclear⟩,
    fun hs ht => .inr ((h.cleared i hs ht).imp hclear hclearFault)⟩
  have hset := h.set i hs ht
  have hcounted := h.counted i hs ht
  rw [hnone hno] at hset hcounted
  exact ⟨hset.resolve_right (by simp [faultTaken]), hcounted.resolve_right (by simp [clearTaken])⟩

/-- R148, R162: with no event held nothing waits. -/
theorem waitingCommands_eq_nil {s : State} (hinv : Inv s) (h : s.held = []) : waitingCommands s = [] := by
  have hport : s.portWaiting = [] := by
    by_contra hne
    obtain ⟨x, hx, -⟩ := hinv.port.2.2.1 hne
    simp [h] at hx
  simp [waitingCommands, h, hport]

theorem waitingCommands_sub_commandsTaken {c : Instr} {s : State} (hc : c = .tick ∨ c = .refclkCycle) :
    ∀ d ∈ waitingCommands s, d ∈ commandsTaken c s := by
  rcases hc with rfl | rfl <;> exact fun d hd => List.mem_cons_of_mem _ hd

theorem marksMove_of_frame {c : Instr} {f : Frame} {s t : State} (hf : frameOfInstr c = some f) (hexec : exec c s = .next t)
    (i : StreamNo) : marksMoveAsStated c s t i := by
  rw [exec_eq_endFrame hf] at hexec
  cases hexec
  have hhead : c ∈ commandsTaken c s := List.mem_cons_self
  rcases endFrame_marks c s with hsame | ⟨hc, hset⟩
  · exact ⟨fun hs ht => absurd (hs.symm.trans ((hsame i).symm.trans ht)) (by decide),
      fun hs ht => absurd (ht.symm.trans ((hsame i).trans hs)) (by decide)⟩
  · refine ⟨fun hs ht => absurd (hs.symm.trans (hset i ht)) (by decide), fun _ _ => .inr ?_⟩
    exact hc.imp (fun ⟨tail, h⟩ => ⟨tail, h ▸ hhead⟩) fun ⟨tail, h⟩ => ⟨tail, h ▸ hhead⟩

theorem marksMove_of_powerOnReset {s t : State} (hexec : exec .powerOnReset s = .next t) (i : StreamNo) :
    marksMoveAsStated .powerOnReset s t i := by
  cases hexec
  have hmark : (powerOnState s).streams[i].faultMark = false := by
    simp [powerOnState, State.reset, StreamRecord.powerOn]
  exact ⟨fun _ ht => absurd (hmark.symm.trans ht) (by decide), fun _ _ => .inl rfl⟩

/-- Settles O56: a cycle by its account with the commands that waited, a frame by what its row does, and every other command but the
power-on reset by its account with no other command. -/
theorem faultMarksMoveOnlyAsStated : Obligations.FaultMarksMoveOnlyAsStated := by
  intro c s t i hinv hexec
  show marksMoveAsStated c s t i
  by_cases hcycle : c = .tick ∨ c = .refclkCycle
  · exact (faultAccount_of_cycle hinv hcycle hexec).marksMove (waitingCommands_sub_commandsTaken hcycle)
      (fun hno => waitingCommands_eq_nil hinv (hno hcycle)) i
  by_cases hreset : c = .powerOnReset
  · subst hreset
    exact marksMove_of_powerOnReset hexec i
  cases hf : frameOfInstr c with
  | some f => exact marksMove_of_frame hf hexec i
  | none => exact (faultAccount_of_event hinv hf hcycle hreset hexec).marksMove (by simp) (fun _ => rfl) i

end Sys2Proof.Machine

/-! ## Reads: form and decode, the entry that answers, claims, park requests and the end of a fetch (R48 to R59, R63, R76, R106). -/

namespace Sys2Proof.Machine

/-! ### Form and decode -/

theorem malformed_eq_false {o : Offset} {n : Nat} (hn : n ≠ 0) (hend : o.toNat + n ≤ 64) : malformed o n = false := by
  simp [malformed, hn, hend]

/-- R90: the window that the statements name is the one the decode finds. -/
theorem decodeWindow_eq_some {s : State} {a : Address} {w : WindowNo} (h : decodesTo s a w) :
    decodeWindow s.windows (pageOf a) = some w := by
  obtain ⟨hcontains, hlower⟩ := h
  have hlist : allWindows = List.finRange 16 := rfl
  rw [decodeWindow, hlist, List.find?_eq_some_iff_getElem]
  refine ⟨hcontains, w.val, by simp, by simp, fun j hj => ?_⟩
  have hfalse := hlower ⟨j, hj.trans w.isLt⟩ hj
  simpa using hfalse

/-- R106: past the form and decode checks a read is answered by the entry it matches, or checked and parked. -/
theorem exec_read_of_decodes {s : State} {a : Address} {n : Nat} {w : WindowNo} (i : StreamNo) (h : readDecodes s a n w) :
    exec (.read i a n) s = .next
      ((s.prt.find? fun p => p.matchesRead i (lineOf a) (offsetOf a) n).elim
        (checkStateAndHold i (parkRequest s.windows[w].readTreatment i (lineOf a) (offsetOf a) n) (s.setAnswers []))
        (fun p => serveMatch p (offsetOf a) n (s.setAnswers []))) := by
  obtain ⟨⟨hpor, hbus, hclk⟩, hn, hend, hdecodes, htreatment⟩ := h
  have htaken : exec (.read i a n) s = .next (readTransaction i a n (s.setAnswers [])) := by
    simp [exec, execRead, arriveAtDeviceBus, hpor, hbus, hclk]
  rw [htaken, readTransaction, malformed_eq_false hn hend, State.setAnswers_windows, State.setAnswers_prt,
    decodeWindow_eq_some hdecodes]
  simp only [Bool.false_eq_true, if_false, if_neg htreatment]
  cases s.prt.find? fun p => p.matchesRead i (lineOf a) (offsetOf a) n <;> rfl

/-! ### The entry that answers -/

/-- R48. -/
theorem PrtEntry.matchesRead_iff (p : PrtEntry) (i : StreamNo) (l : Line) (o : Offset) (n : Nat) :
    p.matchesRead i l o n = true ↔
      p.stream = i ∧ p.line = l ∧ (p.readAhead = true ∨ (p.originOffset = o ∧ p.originCount = n)) := by
  simp [PrtEntry.matchesRead, and_assoc]

/-- R44: an entry is told by its stream and line. -/
theorem prtEntry_unique {s : State} (hreads : ReadsDistinct s) {p q : PrtEntry} (hp : p ∈ s.prt) (hq : q ∈ s.prt)
    (hstream : p.stream = q.stream) (hline : p.line = q.line) : p = q := by
  by_contra hne
  have hsymm : Std.Symm fun p q : PrtEntry => ¬(p.stream = q.stream ∧ p.line = q.line) :=
    ⟨fun _ _ h hsame => h ⟨hsame.1.symm, hsame.2.symm⟩⟩
  exact hreads.1.forall hp hq hne ⟨hstream, hline⟩

/-- R48, R49: a read that an entry matches is answered by it. -/
theorem exec_read_of_match {s : State} {i : StreamNo} {a : Address} {n : Nat} {w : WindowNo} {p : PrtEntry}
    (hreads : ReadsDistinct s) (h : readDecodes s a n w) (hp : p ∈ s.prt) (hstream : p.stream = i) (hline : p.line = lineOf a)
    (horigin : p.readAhead = true ∨ (p.originOffset = offsetOf a ∧ p.originCount = n)) :
    exec (.read i a n) s = .next (serveMatch p (offsetOf a) n (s.setAnswers [])) := by
  have hmatch := (p.matchesRead_iff ..).mpr ⟨hstream, hline, horigin⟩
  rw [exec_read_of_decodes i h]
  cases hfind : s.prt.find? fun p => p.matchesRead i (lineOf a) (offsetOf a) n with
  | none => exact absurd hmatch (List.find?_eq_none.mp hfind p hp)
  | some q =>
    obtain ⟨hqstream, hqline, -⟩ := (q.matchesRead_iff ..).mp
      (List.find?_some (p := fun p : PrtEntry => p.matchesRead ..) hfind)
    obtain rfl := prtEntry_unique hreads hp (List.mem_of_find?_eq_some hfind) (hstream.trans hqstream.symm)
      (hline.trans hqline.symm)
    rfl

/-- R109, R110: in ONLINE, and with the stream not held, the transaction's work is done. -/
theorem checkStateAndHold_of_pass {s : State} {i : StreamNo} {work : State → State} (honline : s.opState = .online)
    (hhold : s.streams[i].hold = false) : checkStateAndHold i work s = work s := by
  rw [checkStateAndHold, if_neg (not_not.mpr honline), if_neg (by simp only [hhold, Bool.false_eq_true, not_false_iff])]

/-- R53, R109, R110: a read that no entry matches, in ONLINE and of a stream that is not held, is a park request. -/
theorem exec_read_of_no_match {s : State} {i : StreamNo} {a : Address} {n : Nat} {w : WindowNo} (h : readDecodes s a n w)
    (honline : s.opState = .online) (hhold : s.streams[i].hold = false)
    (hnone : ∀ p ∈ s.prt, ¬(p.stream = i ∧ p.line = lineOf a ∧
      (p.readAhead = true ∨ (p.originOffset = offsetOf a ∧ p.originCount = n)))) :
    exec (.read i a n) s =
      .next (parkRequest s.windows[w].readTreatment i (lineOf a) (offsetOf a) n (s.setAnswers [])) := by
  have hfind : (s.prt.find? fun p => p.matchesRead i (lineOf a) (offsetOf a) n) = none :=
    List.find?_eq_none.mpr fun p hp hmatch => hnone p hp ((p.matchesRead_iff ..).mp hmatch)
  rw [exec_read_of_decodes i h, hfind]
  exact congrArg _ (checkStateAndHold_of_pass (s := s.setAnswers []) honline hhold)

/-! ### Entries that are freed -/

/-- R123: a drain as a change of the operating state. -/
theorem checkDrain_eq (s : State) :
    checkDrain s = s.setOpState (if s.opState = .draining ∧ s.pq = [] ∧ s.prt = [] then .offline else s.opState) := by
  unfold checkDrain
  split <;> rfl

/-- R44. -/
theorem prt_ids_nodup {s : State} (hinv : Inv s) : (s.prt.map PrtEntry.id).Nodup := by
  obtain ⟨-, hids, -⟩ := hinv.distinct
  exact hids

/-- R44: entries are distinct objects, so the first entry of an id is the only one. -/
theorem eraseP_id_eq_filter {prt : List PrtEntry} (hids : (prt.map PrtEntry.id).Nodup) (id : Nat) :
    (prt.eraseP fun p => p.id == id) = prt.filter fun p => p.id ≠ id := by
  induction prt with
  | nil => rfl
  | cons p prt ih =>
    obtain ⟨hp, hprt⟩ := List.nodup_cons.mp hids
    by_cases hid : p.id = id
    · have hothers : ∀ q ∈ prt, q.id ≠ id := fun q hq hqid => hp ((hid.trans hqid.symm) ▸ List.mem_map_of_mem hq)
      rw [List.eraseP_cons_of_pos (by simpa using hid), List.filter_cons_of_neg (by simpa using hid),
        List.filter_eq_self.mpr (by simpa using hothers)]
    · rw [List.eraseP_cons_of_neg (by simpa using hid), List.filter_cons_of_pos (by simpa using hid), ih hprt]

/-- R63: the freeing of an entry as the statements spell it. -/
theorem freePrt_eq {s : State} (hids : (s.prt.map PrtEntry.id).Nodup) (id : Nat) :
    freePrt id s = (s.setPrt (prtWithout s id)).setOpState (opStateAfterFree s (prtWithout s id)) := by
  rw [freePrt, eraseP_id_eq_filter hids, checkDrain_eq]
  rfl

/-- R63, R123: in ONLINE no drain completes. -/
theorem freePrt_of_online {s : State} (hids : (s.prt.map PrtEntry.id).Nodup) (honline : s.opState = .online) (id : Nat) :
    freePrt id s = s.setPrt (prtWithout s id) := by
  have hstate : opStateAfterFree s (prtWithout s id) = s.opState := if_neg (by simp [honline])
  rw [freePrt_eq hids, hstate]
  rfl

/-- R44: entries are distinct objects, so the PRT without the entry of an id is the PRT around that entry. -/
theorem prtWithout_of_split {s : State} (hids : (s.prt.map PrtEntry.id).Nodup) {before after : List PrtEntry} {p : PrtEntry}
    (hprt : s.prt = before ++ p :: after) : prtWithout s p.id = before ++ after := by
  have hothers : p.id ∉ (before ++ after).map PrtEntry.id := by
    rw [hprt, List.map_append, List.map_cons, List.nodup_middle, ← List.map_append] at hids
    exact (List.nodup_cons.mp hids).1
  have hkeep : (before ++ after).filter (fun q => q.id ≠ p.id) = before ++ after :=
    List.filter_eq_self.mpr fun q hq => by simpa using fun h : q.id = p.id => hothers (h ▸ List.mem_map_of_mem hq)
  rw [List.filter_append] at hkeep
  rw [prtWithout, hprt, List.filter_append, List.filter_cons_of_neg (by simp), hkeep]

/-! ### Matched reads -/

section
variable {p : PrtEntry} {o : Offset} {n : Nat} {s : State}

/-- R49. -/
theorem serveMatch_of_waiting {hazards : List Nat} (h : p.state = .waiting hazards) :
    serveMatch p o n s = answerRetry .notReady s := by
  simp [serveMatch, h]

/-- R49. -/
theorem serveMatch_of_fetching {t : TagNo} (h : p.state = .fetching t) : serveMatch p o n s = answerRetry .notReady s := by
  simp [serveMatch, h]

/-- R50. -/
theorem serveMatch_of_fault {claim : Timer} (h : p.state = .parked .fault claim) :
    serveMatch p o n s = answerAbort (freePrt p.id s) := by
  simp [serveMatch, h]

/-- R51. -/
theorem serveMatch_of_data {line : LineData} {claim : Timer} (h : p.state = .parked (.data line) claim) :
    serveMatch p o n s = claimParked p line o n s := by
  simp [serveMatch, h]

/-- R52. -/
theorem serveMatch_of_lingering {line : LineData} {linger : Timer} (h : p.state = .lingering line linger) :
    serveMatch p o n s = bump .lingerHits (answerData (lineSlice line o n) s) := by
  simp [serveMatch, h]

/-- R51: the claim of an entry with read-ahead, in ONLINE. -/
theorem claimParked_of_lingers (line : LineData) (hahead : p.readAhead = true) (honline : s.opState = .online) :
    claimParked p line o n s = answerData (lineSlice line o n)
      (updatePrt p.id (fun q => { q with state := .lingering line (Timer.start s.timers.lingerTime) }) s) := by
  rw [claimParked, if_pos ⟨hahead, honline⟩]

/-- R51, R63: the claim of an entry without read-ahead, or outside ONLINE. -/
theorem claimParked_of_frees (line : LineData) (h : p.readAhead = false ∨ s.opState ≠ .online) :
    claimParked p line o n s = answerData (lineSlice line o n) (freePrt p.id s) := by
  rw [claimParked, if_neg fun ⟨hahead, honline⟩ => h.elim (by simp [hahead]) (· honline)]

end

/-- Settles O17: the entry that matches is the one that answers, case by case of its state. -/
theorem matchedReadsAnswerByTheEntrysState : Obligations.MatchedReadsAnswerByTheEntrysState := by
  intro s i a n w p hinv hdecodes hp hstream hline horigin
  have hids := prt_ids_nodup hinv
  rw [exec_read_of_match hinv.reads hdecodes hp hstream hline horigin]
  refine ⟨?_, fun claim hstate => ?_, fun line linger hstate => ?_⟩
  · rintro (⟨hazards, hstate⟩ | ⟨t, hstate⟩)
    · rw [serveMatch_of_waiting hstate]
      rfl
    · rw [serveMatch_of_fetching hstate]
      rfl
  · rw [serveMatch_of_fault hstate, freePrt_eq (s := s.setAnswers []) hids]
    rfl
  · rw [serveMatch_of_lingering hstate]
    rfl

/-- Settles O18: the entry that matches is claimed, and the two clauses are the branches of `claimParked`. -/
theorem claimDeliversAndLingersOrFrees : Obligations.ClaimDeliversAndLingersOrFrees := by
  intro s i a n w p line claim hinv hdecodes hp hstream hline horigin hstate
  have hids := prt_ids_nodup hinv
  rw [exec_read_of_match hinv.reads hdecodes hp hstream hline horigin, serveMatch_of_data hstate]
  refine ⟨fun hahead honline => ?_, fun hfrees => ?_⟩
  · rw [claimParked_of_lingers (s := s.setAnswers []) line hahead honline]
    rfl
  · rw [claimParked_of_frees (s := s.setAnswers []) line hfrees, freePrt_eq (s := s.setAnswers []) hids]
    rfl

/-! ### Park requests -/

theorem prtEntryAt_isSome_iff (prt : List PrtEntry) (i : StreamNo) (l : Line) :
    (prtEntryAt prt i l).isSome = true ↔ ∃ p ∈ prt, p.stream = i ∧ p.line = l := by
  simp [prtEntryAt]

section
variable {s : State} {i : StreamNo} {l : Line} {rt : ReadTreatment} {o : Offset} {n : Nat}

/-- R53. -/
theorem parkRequest_of_busy (h : ∃ p ∈ s.prt, p.stream = i ∧ p.line = l) :
    parkRequest rt i l o n s = answerRetry .lineBusy s := by
  rw [parkRequest, if_pos ((prtEntryAt_isSome_iff ..).mpr h)]

/-- R54: the table has no room, and none can be made. -/
theorem parkRequest_of_full (hfree : ∀ p ∈ s.prt, ¬(p.stream = i ∧ p.line = l)) (hfull : Config.prtCapacity ≤ s.prt.length)
    (hnone : ∀ p ∈ s.prt, p.isLingering = false) : parkRequest rt i l o n s = answerRetry .tableFull s := by
  have hfind : s.prt.find? PrtEntry.isLingering = none := List.find?_eq_none.mpr (by simpa using hnone)
  rw [parkRequest, if_neg (by simpa [prtEntryAt_isSome_iff] using hfree), if_neg (Nat.not_lt.mpr hfull), hfind]

/-- R54: the entries that stay where a park request finds room, or makes it by the eviction of the oldest LINGERING entry. -/
def roomMade (prt rest : List PrtEntry) : Prop :=
  (prt.length < Config.prtCapacity ∧ rest = prt) ∨
    (prt.length = Config.prtCapacity ∧ ∃ before p after, prt = before ++ p :: after ∧ p.isLingering = true ∧
      (∀ q ∈ before, q.isLingering = false) ∧ rest = before ++ after)

/-- R54: the read parks behind the entries that stay. -/
theorem parkRequest_of_roomMade (hids : (s.prt.map PrtEntry.id).Nodup) (honline : s.opState = .online)
    (hfree : ∀ p ∈ s.prt, ¬(p.stream = i ∧ p.line = l)) {rest : List PrtEntry} (hroom : roomMade s.prt rest) :
    parkRequest rt i l o n s = parkRead rt i l o n (s.setPrt rest) := by
  rw [parkRequest, if_neg (by simpa [prtEntryAt_isSome_iff] using hfree)]
  rcases hroom with ⟨hlength, rfl⟩ | ⟨hlength, before, p, after, hprt, hlingers, holder, rfl⟩
  · rw [if_pos hlength]
    rfl
  · have hfind : s.prt.find? PrtEntry.isLingering = some p :=
      List.find?_eq_some_iff_append.mpr ⟨hlingers, before, after, hprt, by simpa using holder⟩
    rw [if_neg (Nat.not_lt.mpr hlength.ge), hfind, ← prtWithout_of_split hids hprt,
      ← freePrt_of_online hids honline]

end

/-- Settles O19: a read that no entry matches is a park request, and the clauses are two of its branches. -/
theorem parkRequestFindsLineBusyOrTableFull : Obligations.ParkRequestFindsLineBusyOrTableFull := by
  intro s i a n w hdecodes honline hhold hnone
  rw [exec_read_of_no_match hdecodes honline hhold hnone]
  refine ⟨fun hbusy => ?_, fun hfree hfull hlingers => ?_⟩
  · rw [parkRequest_of_busy (s := s.setAnswers []) hbusy]
    rfl
  · rw [parkRequest_of_full (s := s.setAnswers []) hfree hfull hlingers]
    rfl

/-! ### Parking -/

/-- R56: the hazards of a new read as the statements spell them. -/
theorem isHazard_eq (streams : Vector StreamRecord 8) (i : StreamNo) (l : Line) :
    isHazard streams i l = fun e => decide (e.line = l ∨ (streams[i].orderMode = .strict ∧ e.stream = i)) := by
  funext e
  simp [isHazard, Bool.beq_eq_decide_eq]

/-- R14: the stream records after a seal as the statements spell them. -/
theorem sealWhere_streams (cause : PqEntry → Bool) (s : State) :
    (sealWhere cause s).streams = Vector.ofFn fun j =>
      if ∃ e ∈ s.pq, e.isOpen = true ∧ cause e = true ∧ e.stream = j then { s.streams[j] with openEntry := none }
      else s.streams[j] := by
  refine congrArg Vector.ofFn (funext fun j => if_congr ?_ rfl rfl)
  simp [and_assoc]

/-- R55, R56, R16: the parking of a read as the statements spell it. -/
theorem parkRead_eq (rt : ReadTreatment) (i : StreamNo) (l : Line) (o : Offset) (n : Nat) (s : State) :
    let hazard := fun e : PqEntry => decide (e.line = l ∨ (s.streams[i].orderMode = .strict ∧ e.stream = i))
    parkRead rt i l o n s =
      (((((s.setPrt (s.prt ++
          [{ id := s.nextId, stream := i, line := l, originOffset := o, originCount := n, readAhead := decide (rt = .line),
             state := .waiting ((s.pq.filter hazard).map PqEntry.id) }])).setPq
        (s.pq.map fun e => if hazard e then e.toSealed else e)).setStreams
        (Vector.ofFn fun j =>
          if ∃ e ∈ s.pq, e.isOpen = true ∧ hazard e = true ∧ e.stream = j then { s.streams[j] with openEntry := none }
          else s.streams[j])).setNextId
        (s.nextId + 1)).setCounters (bump .retriesParked s).counters).setAnswers (s.answers ++ [.retry .parked]) := by
  intro hazard
  have hhazard : isHazard s.streams i l = hazard := isHazard_eq ..
  rw [parkRead, hhazard, sealWhere_frame, sealWhere_streams, sealWhere_pq]
  rfl

/-- Settles O20: the request parks behind the entries that stay. -/
theorem readParksBehindItsHazards : Obligations.ReadParksBehindItsHazards := by
  intro s i a n w rest hinv hdecodes honline hhold hfree hroom hazard
  have hids := prt_ids_nodup hinv
  have hnone : ∀ p ∈ s.prt, ¬(p.stream = i ∧ p.line = lineOf a ∧
      (p.readAhead = true ∨ (p.originOffset = offsetOf a ∧ p.originCount = n))) :=
    fun p hp ⟨hstream, hline, _⟩ => hfree p hp ⟨hstream, hline⟩
  rw [exec_read_of_no_match hdecodes honline hhold hnone,
    parkRequest_of_roomMade (s := s.setAnswers []) hids honline hfree hroom, parkRead_eq]
  simp only [State.setPrt_prt, State.setPrt_pq, State.setPrt_streams, State.setPrt_nextId, State.setPrt_answers,
    State.setAnswers_pq, State.setAnswers_streams, State.setAnswers_nextId, State.setAnswers_answers, State.setPrt_setPrt]
  rfl

/-! ### Responses to fetches -/

/-- R162, R163: a response that is taken. -/
theorem exec_readResponse_of_takes {s : State} (h : takesResponses s) (t : TagNo) (r : ReadResult) :
    exec (.readResponse t r) s = .next (takeReadResponse t r s) := by
  obtain ⟨hpor, hclk⟩ := h
  simp [exec, execReadResponse, arriveAtMemoryLink, hpor, hclk]

/-- R69: the tag of a FETCHING entry is BUSY and owned by it. -/
theorem tag_of_fetching {s : State} (hinv : Inv s) {p : PrtEntry} {t : TagNo} (hp : p ∈ s.prt) (hstate : p.state = .fetching t) :
    ∃ timer, s.tags[t] = .busy (.prtEntry p.id) timer := by
  obtain ⟨-, -, hfetching⟩ := hinv.tags
  have howner := hfetching p hp t hstate
  cases htag : s.tags[t] <;> rw [htag] at howner
  case busy o timer => exact ⟨timer, congrArg (Tag.busy · timer) (Option.some.inj howner)⟩
  all_goals cases howner

/-- R44: the entry of an id. -/
theorem find_id_eq_some {prt : List PrtEntry} (hids : (prt.map PrtEntry.id).Nodup) {p : PrtEntry} (hp : p ∈ prt) :
    (prt.find? fun q => q.id == p.id) = some p := by
  cases hfind : prt.find? fun q => q.id == p.id with
  | none => exact absurd (beq_self_eq_true p.id) (List.find?_eq_none.mp hfind p hp)
  | some q =>
    have hid : q.id = p.id := by simpa using List.find?_some (p := fun q : PrtEntry => q.id == p.id) hfind
    exact congrArg some (List.inj_on_of_nodup_map hids (List.mem_of_find?_eq_some hfind) hp hid)

/-- R76: a Read Response for the tag of a FETCHING entry frees the tag and ends the entry's fetch. -/
theorem exec_readResponse_of_fetching {s : State} (hinv : Inv s) (htakes : takesResponses s) {p : PrtEntry} {t : TagNo}
    (hp : p ∈ s.prt) (hstate : p.state = .fetching t) (r : ReadResult) :
    exec (.readResponse t r) s = .next (endFetch t p.id r (setTag t .free s)) := by
  obtain ⟨timer, htag⟩ := tag_of_fetching hinv hp hstate
  rw [exec_readResponse_of_takes htakes, takeReadResponse, htag]

/-- R58. -/
theorem endFetch_of_ok {s : State} {p : PrtEntry} {id : Nat} (hfind : (s.prt.find? fun q => q.id == id) = some p) (t : TagNo)
    (line : LineData) : endFetch t id (.ok line) s = parkFetched id (.data line) s := by
  simp [endFetch, hfind]

/-- R59. -/
theorem endFetch_of_fault {s : State} {p : PrtEntry} {id : Nat} (hfind : (s.prt.find? fun q => q.id == id) = some p) (t : TagNo) :
    endFetch t id .fault s = parkFetched id .fault (offerError (.readFault p.stream p.line t) s) := by
  simp [endFetch, hfind]

/-- R139: an offered record and the tags do not meet. -/
theorem offerError_setTag (r : ErrorRecord) (t : TagNo) (tag : Tag) (s : State) :
    offerError r (setTag t tag s) = (offerError r s).setTags (s.tags.set t tag) := by
  rcases offerError_cases r s with ⟨hroom, h⟩ | ⟨hfull, h⟩ <;> rw [h]
  · exact offerError_of_room r (setTag t tag s) hroom
  · exact offerError_of_full r (setTag t tag s) hfull

/-- Settles O26: the response ends the fetch of the entry that owns the tag, with the data or the fault. -/
theorem readResponseParksTheFetchedEntry : Obligations.ReadResponseParksTheFetchedEntry := by
  intro s t p line hinv htakes hp hstate
  have hfind : ((setTag t .free s).prt.find? fun q => q.id == p.id) = some p := find_id_eq_some (prt_ids_nodup hinv) hp
  rw [exec_readResponse_of_fetching hinv htakes hp hstate, exec_readResponse_of_fetching hinv htakes hp hstate,
    endFetch_of_ok hfind, endFetch_of_fault hfind, offerError_setTag]
  refine ⟨rfl, ?_⟩
  rw [offerError_frame]
  rfl

end Sys2Proof.Machine

/-! ## The pins of the memory link and the management port's FREE LAPSED (R68, R84, R117, R149, R150). -/

namespace Sys2Proof.Machine

/-- Settles O24: a pin command is the update of its pins. -/
theorem pinCommandsChangeTheirPinsAlone : Obligations.PinCommandsChangeTheirPinsAlone := by
  intro s
  exact ⟨rfl, rfl, rfl⟩

/-- Table 9-3: no two commands share a code. -/
theorem commandOfCode_commandCode (c : Command) : commandOfCode (commandCode c) = some c := by
  cases c <;> decide

/-- R149: a frame that fixes the command byte, of up to 12 data bytes and of the length that its command asks for, is well-framed. -/
theorem parseFrame_commandFrame (c : Command) (hi lo : Byte) (data : List Byte) (h : data.length ≤ 12)
    (hfixed : ∀ n ∈ fixedDataLength c, n = data.length) :
    parseFrame (commandFrame c (framed hi lo data)) = some { command := c, item := beNat [hi, lo], data := data } := by
  have hlen : (BitVec.ofNat 8 data.length).toNat = data.length := by
    rw [BitVec.toNat_ofNat]; omega
  have hany : ((fixedDataLength c).any fun n => n != data.length) = false := by
    cases hc : fixedDataLength c with
    | none => rfl
    | some n => simpa using hfixed n hc
  simp only [parseFrame, commandFrame, framed, commandOfCode_commandCode, hlen, hany, Config.maxFrameData]
  rw [if_neg (by simp), if_neg (by omega), if_neg (by simp), if_neg (by simp)]

/-- R149, R150: the end of a well-framed command on a ready port is its row's action, and the action's reply. -/
theorem exec_of_parseFrame {s : State} {c : Instr} {f : Frame} {r : FrameRequest} (ready : portReady s)
    (hf : frameOfInstr c = some f) (hr : parseFrame f = some r) :
    exec c s = .next ((rowAction c r (afterCsRise s s c)).1.setReply (rowAction c r (afterCsRise s s c)).2) := by
  rw [exec_eq_endFrame hf, endFrame_of_portReady ready hf, takeFrame, hr]

theorem Tag.isLapsed_iff (tag : Tag) : tag.isLapsed = true ↔ tag = .lapsed := by
  cases tag <;> simp [Tag.isLapsed]

/-- R84: LAPSED becomes FREE, and no other tag changes. -/
theorem Tag.freedIfLapsed_eq (tag : Tag) : tag.freedIfLapsed = if tag = .lapsed then .free else tag := by
  cases tag <;> rfl

theorem Tag.freedIfLapsed_ne_lapsed (tag : Tag) : tag.freedIfLapsed ≠ .lapsed := by
  cases tag <;> simp [Tag.freedIfLapsed]

theorem mem_allTags (t : TagNo) : t ∈ allTags := by
  revert t
  decide

theorem tagCount_eq_zero_iff (tags : Vector Tag 16) (p : Tag → Bool) : tagCount tags p = 0 ↔ ∀ t : TagNo, p tags[t] = false := by
  simp [tagCount, List.countP_eq_zero, mem_allTags]

/-- Settles O51: on a ready port the command is `freeLapsedAction`, which changes the tags alone. -/
theorem freeLapsedFreesEveryLapsedTag : Obligations.FreeLapsedFreesEveryLapsedTag := by
  intro s hi lo data ready hlen c
  have hparse := parseFrame_commandFrame .freeLapsed hi lo data hlen (by simp [fixedDataLength])
  have hget (t : TagNo) : (Vector.ofFn fun t : TagNo => s.tags[t].freedIfLapsed)[t] = s.tags[t].freedIfLapsed := by simp
  refine ⟨Vector.ofFn fun t => s.tags[t].freedIfLapsed, ?_, fun t => ?_, ?_⟩
  · rw [exec_of_parseFrame (c := c) ready rfl hparse]
    rfl
  · rw [hget, Tag.freedIfLapsed_eq]
  · refine (tagCount_eq_zero_iff ..).mpr fun t => Bool.eq_false_iff.mpr fun hlapsed => ?_
    rw [hget, Tag.isLapsed_iff] at hlapsed
    exact Tag.freedIfLapsed_ne_lapsed _ hlapsed

end Sys2Proof.Machine

/-! ## Responses by the state of their tag (R77 to R80). -/

namespace Sys2Proof.Machine

/-- R162, R163: a Write Response that is taken. -/
theorem exec_writeResponse_of_takes {s : State} (h : takesResponses s) (t : TagNo) (st : ResponseStatus) :
    exec (.writeResponse t st) s = .next (takeWriteResponse t st s) := by
  obtain ⟨hpor, hclk⟩ := h
  simp [exec, execWriteResponse, arriveAtMemoryLink, hpor, hclk]

section
variable {s : State} {t : TagNo}

/-- R78: the late response as the statements spell it. -/
theorem lateResponse_eq (t : TagNo) (s : State) :
    lateResponse t s = (offerError (.lateResponse t) s).setTags (s.tags.set t .free) :=
  offerError_setTag ..

/-- R78. -/
theorem takeWriteResponse_of_lapsed (h : s.tags[t] = .lapsed) (st : ResponseStatus) :
    takeWriteResponse t st s = lateResponse t s := by
  rw [takeWriteResponse, h]

/-- R78. -/
theorem takeReadResponse_of_lapsed (h : s.tags[t] = .lapsed) (r : ReadResult) :
    takeReadResponse t r s = lateResponse t s := by
  rw [takeReadResponse, h]

/-- R77. -/
theorem takeReadResponse_of_orphan {timer : Timer} (h : s.tags[t] = .busy .orphan timer) (r : ReadResult) :
    takeReadResponse t r s = setTag t .free s := by
  rw [takeReadResponse, h]

/-- R79, R80: a Write Response for a FREE tag, or one that a read owns. -/
theorem takeWriteResponse_of_no_write (h : s.tags[t] = .free ∨ ∃ o timer, s.tags[t] = .busy o timer ∧ o.linkClass = .read)
    (st : ResponseStatus) : takeWriteResponse t st s = unexpectedResponse t s := by
  rcases h with h | ⟨o, timer, h, hclass⟩
  · rw [takeWriteResponse, h]
  · cases o with
    | pqEntry => cases hclass
    | prtEntry => rw [takeWriteResponse, h]
    | orphan => rw [takeWriteResponse, h]

/-- R79, R80: a Read Response for a FREE tag, or one that a write owns. -/
theorem takeReadResponse_of_no_read (h : s.tags[t] = .free ∨ ∃ o timer, s.tags[t] = .busy o timer ∧ o.linkClass = .write)
    (r : ReadResult) : takeReadResponse t r s = unexpectedResponse t s := by
  rcases h with h | ⟨o, timer, h, hclass⟩
  · rw [takeReadResponse, h]
  · cases o with
    | pqEntry => rw [takeReadResponse, h]
    | prtEntry => cases hclass
    | orphan => cases hclass

end

/-- Settles O27: the response is taken, and each clause is one of its branches on the tag. -/
theorem strayResponsesEndNoRequest : Obligations.StrayResponsesEndNoRequest := by
  intro s t st r htakes
  rw [exec_writeResponse_of_takes htakes, exec_readResponse_of_takes htakes]
  refine ⟨fun timer htag => ?_, fun htag => ⟨?_, ?_⟩, fun htag => ?_, fun htag => ?_⟩
  · rw [takeReadResponse_of_orphan htag]
    rfl
  · rw [takeWriteResponse_of_lapsed htag, lateResponse_eq]
  · rw [takeReadResponse_of_lapsed htag, lateResponse_eq]
  · rw [takeWriteResponse_of_no_write htag]
    rfl
  · rw [takeReadResponse_of_no_read htag]
    rfl

end Sys2Proof.Machine

/-! ## Grants: when one is made, and that no cycle leaves one due (R68, R70, R73). -/

namespace Sys2Proof.Machine

/-! ### One grant -/

/-- R73: a grant that is due sends one request. -/
theorem grantOnce_requests_of_due {s : State} (h : grantDue s = true) : ∃ r, (grantOnce s).requests = s.requests ++ [r] := by
  rcases grantOnce_cases s with ⟨hnot, -⟩ | ⟨-, t, -, ⟨e, -, heq⟩ | ⟨p, -, heq⟩⟩
  · exact absurd (hnot.symm.trans h) (by decide)
  · exact ⟨.writeRequest t e.line e.bytes, by rw [heq]; rfl⟩
  · exact ⟨.readRequest t p.line, by rw [heq]; rfl⟩

/-- R68, R70: no grant is made that is not due. -/
theorem grantOnce_of_not_due {s : State} (h : grantDue s = false) : grantOnce s = s := by
  rcases grantOnce_cases s with ⟨-, heq⟩ | ⟨hdue, -⟩
  · exact heq
  · exact absurd (h.symm.trans hdue) (by decide)

/-- R70: the tag of a grant is FREE. -/
theorem isFree_of_lowestFreeTag {tags : Vector Tag 16} {t : TagNo} (h : lowestFreeTag tags = some t) : tags[t].isFree = true := by
  rw [lowestFreeTag] at h
  exact List.find?_some (p := fun t : TagNo => tags[t].isFree) h

/-- R70: where a grant is due a tag is FREE. -/
theorem tagCount_isFree_pos_of_due {s : State} (h : grantDue s = true) : 0 < tagCount s.tags Tag.isFree := by
  rcases grantOnce_cases s with ⟨hnot, -⟩ | ⟨-, t, ht, -⟩
  · exact absurd (hnot.symm.trans h) (by decide)
  · exact List.countP_pos_iff.mpr ⟨t, mem_allTags t, isFree_of_lowestFreeTag ht⟩

/-- R69: a FREE tag that becomes BUSY is one FREE tag less. -/
theorem tagCount_isFree_set_busy {tags : Vector Tag 16} {t : TagNo} (h : tags[t].isFree = true) (o : Owner) (timer : Timer) :
    tagCount (tags.set t (.busy o timer)) Tag.isFree < tagCount tags Tag.isFree := by
  have hle (l : List TagNo) : (l.countP fun k => (tags.set t (.busy o timer))[k].isFree) ≤ l.countP fun k => tags[k].isFree := by
    refine List.countP_mono_left fun k _ hk => ?_
    by_cases hkt : t.val = k.val
    · simp [hkt, Tag.isFree] at hk
    · simpa [hkt] using hk
  have hset : (tags.set t (.busy o timer))[t].isFree = false := by simp [Tag.isFree]
  obtain ⟨before, after, hsplit⟩ := List.append_of_mem (mem_allTags t)
  have hbefore := hle before
  have hafter := hle after
  simp only [tagCount, hsplit, List.countP_append, List.countP_cons, h, hset, if_true, Bool.false_eq_true, if_false]
  omega

/-- R70, R73: a grant that is made takes a FREE tag. -/
theorem tagCount_isFree_grantOnce {s : State} (h : grantDue s = true) :
    tagCount (grantOnce s).tags Tag.isFree < tagCount s.tags Tag.isFree := by
  rcases grantOnce_cases s with ⟨hnot, -⟩ | ⟨-, t, ht, hgrant⟩
  · exact absurd (hnot.symm.trans h) (by decide)
  · have hfree := isFree_of_lowestFreeTag ht
    rcases hgrant with ⟨e, -, heq⟩ | ⟨p, -, heq⟩ <;> rw [heq]
    · exact tagCount_isFree_set_busy hfree (.pqEntry e.id) _
    · exact tagCount_isFree_set_busy hfree (.prtEntry p.id) _

/-! ### A run of grants -/

/-- R73: where a grant is due after a run of grants, every one of them was made, and each took a FREE tag. -/
theorem tagCount_isFree_foldl_grantOnce (l : List TagNo) (s : State) (h : grantDue (l.foldl (fun acc _ => grantOnce acc) s) = true) :
    tagCount (l.foldl (fun acc _ => grantOnce acc) s).tags Tag.isFree + l.length ≤ tagCount s.tags Tag.isFree := by
  induction l generalizing s with
  | nil => exact le_rfl
  | cons t l ih =>
    have hrest := ih (grantOnce s) h
    rw [List.foldl_cons, List.length_cons]
    cases hdue : grantDue s with
    | true =>
      have hless := tagCount_isFree_grantOnce hdue
      omega
    | false =>
      have hsame : l.foldl (fun acc _ => grantOnce acc) s = s :=
        List.foldl_fixed' (fun _ => grantOnce_of_not_due hdue) l
      rw [List.foldl_cons, grantOnce_of_not_due hdue, hsame, hdue] at h
      cases h

/-- R73: the grants that are due are made until none is. -/
theorem grantDue_takeDueGrants (s : State) : grantDue (takeDueGrants s) = false := by
  refine Bool.eq_false_iff.mpr fun hdue => ?_
  have htaken := tagCount_isFree_foldl_grantOnce allTags s hdue
  have hpos : 0 < tagCount (allTags.foldl (fun acc _ => grantOnce acc) s).tags Tag.isFree := tagCount_isFree_pos_of_due hdue
  have hle : tagCount s.tags Tag.isFree ≤ allTags.length := List.countP_le_length
  omega

/-! ### A cycle -/

theorem grantDue_takeOldestHeld {s : State} (h : grantDue s = false) : grantDue (takeOldestHeld s) = false := by
  rcases takeOldestHeld_cases s with ⟨-, heq⟩ | ⟨x, rest, -, heq⟩ <;> rw [heq]
  · exact h
  · exact grantDue_takeDueGrants _

theorem grantDue_takeHeldUpTo (n : Nat) {s : State} (h : grantDue s = false) : grantDue (takeHeldUpTo n s) = false := by
  induction n generalizing s with
  | zero => exact h
  | succ n ih => exact ih (grantDue_takeOldestHeld h)

/-- R162, R73: no grant is due when a cycle counts. -/
theorem grantDue_takeWaiting (s : State) : grantDue (takeWaiting s) = false :=
  grantDue_takeHeldUpTo _ (grantDue_takeDueGrants _)

@[simp] theorem PqEntry.advanced_id (e : PqEntry) : e.advanced.id = e.id := by
  unfold PqEntry.advanced; split <;> rfl

@[simp] theorem PqEntry.advanced_stream (e : PqEntry) : e.advanced.stream = e.stream := by
  unfold PqEntry.advanced; split <;> rfl

@[simp] theorem PqEntry.advanced_line (e : PqEntry) : e.advanced.line = e.line := by
  unfold PqEntry.advanced; split <;> rfl

@[simp] theorem PqEntry.advanced_kind (e : PqEntry) : e.advanced.kind = e.kind := by
  unfold PqEntry.advanced; split <;> rfl

@[simp] theorem PqEntry.advanced_isSealed (e : PqEntry) : e.advanced.isSealed = e.isSealed := by
  obtain ⟨id, i, l, bytes, kind, state⟩ := e
  cases state <;> rfl

@[simp] theorem PqEntry.advanced_isVoidMarked (e : PqEntry) : e.advanced.isVoidMarked = e.isVoidMarked := by
  simp [PqEntry.isVoidMarked]

@[simp] theorem PrtEntry.advanced_isCandidate (p : PrtEntry) : p.advanced.isCandidate = p.isCandidate := by
  obtain ⟨id, i, l, o, n, ahead, state⟩ := p
  cases state <;> rfl

@[simp] theorem Tag.advanced_isFree (tag : Tag) : tag.advanced.isFree = tag.isFree := by
  cases tag <;> rfl

/-- R27: a tick makes no entry issuable. -/
@[simp] theorem issuable_advanced (streams : Vector StreamRecord 8) (pq : List PqEntry) (e : PqEntry) :
    issuable streams (pq.map PqEntry.advanced) e.advanced = issuable streams pq e := by
  have hback (x : PqEntry) : holdsBack streams e.advanced x.advanced = holdsBack streams e x := by
    simp [holdsBack, PqEntry.isRelease]
  simp [issuable, earlierThan, List.takeWhile_map, Function.comp_def, hback]

/-- R73: a tick makes no grant due. -/
theorem grantDue_advanceTimers (s : State) : grantDue (advanceTimers s) = grantDue s := by
  simp [grantDue, advanceTimers, lowestFreeTag, writeCandidate, readCandidate, List.find?_map]

/-- A grant is due or not whatever the count of REFCLK cycles. -/
theorem grantDue_setTbCount (s : State) (n : Fin 50) : grantDue (s.setTbCount n) = grantDue s := rfl

/-- A grant is due or not whether REFCLK runs or not (assumption 22). -/
theorem grantDue_setRefclkStopped (s : State) (b : Bool) : grantDue (s.setRefclkStopped b) = grantDue s := rfl

theorem grantDue_tickOnce (s : State) : grantDue (tickOnce s) = false := by
  rw [tickOnce, grantDue_setTbCount, grantDue_advanceTimers, grantDue_takeWaiting]

theorem grantDue_refclkOnce (s : State) : grantDue (refclkOnce s) = false := by
  unfold refclkOnce
  split
  · exact grantDue_tickOnce s
  · rw [grantDue_setTbCount, grantDue_takeWaiting]

/-- R162, R73: where REFCLK stops, the grants that follow the last expiries are made. -/
theorem grantDue_takeDueBeforeStop (stops : Bool) {s : State} (h : grantDue s = false) :
    grantDue (takeDueBeforeStop stops s) = false := by
  rcases takeDueBeforeStop_cases stops s with ⟨-, heq⟩ | ⟨-, heq⟩ <;> rw [heq]
  · exact grantDue_takeDueGrants _
  · exact h

/-- R163: under PORn no grant is due. -/
theorem grantDue_of_por {s : State} (h : s.por = true) : grantDue s = false := by
  simp [grantDue, h]

@[simp] theorem takeInput_por (s : State) : (takeInput s).por = s.por := by
  unfold takeInput
  rcases edgesArrive_cases s.nextInput.edges (s.setCycleInputs s.cycleInputs.tail) with ⟨-, -, heq⟩ | ⟨-, heq⟩ <;> rw [heq] <;> rfl

/-- R73: neither a tick nor a REFCLK cycle leaves a grant due. -/
theorem grantDue_of_cycle {c : Instr} {s t : State} (hc : c = .tick ∨ c = .refclkCycle) (hexec : exec c s = .next t) :
    grantDue t = false := by
  rcases hc with rfl | rfl <;> cases hexec
  · split
    · exact grantDue_of_por ‹_›
    · rw [grantDue_setRefclkStopped, grantDue_tickOnce]
  · rw [grantDue_setRefclkStopped]
    split
    · exact grantDue_of_por ((takeInput_por s).trans ‹_›)
    · exact grantDue_takeDueBeforeStop _ (grantDue_refclkOnce _)

/-- Settles O23: GRANT makes one grant where one is due, and a cycle makes them until none is. -/
theorem grantIsMadeExactlyWhenDue : Obligations.GrantIsMadeExactlyWhenDue := by
  intro s
  have hdue : grantDue (s.setRequests []) = grantDue s := rfl
  refine ⟨⟨grantOnce (s.setRequests []), rfl, ⟨fun hsent => ?_, fun h => ?_⟩, fun h => grantOnce_of_not_due (hdue.trans h)⟩,
    fun c t hc hexec => grantDue_of_cycle hc hexec⟩
  · by_contra hnot
    rw [grantOnce_of_not_due (hdue.trans (Bool.eq_false_of_not_eq_true hnot))] at hsent
    exact hsent rfl
  · obtain ⟨r, hr⟩ := grantOnce_requests_of_due (hdue.trans h)
    rw [hr]
    exact List.append_ne_nil_of_right_ne_nil _ (List.cons_ne_nil r [])

end Sys2Proof.Machine

/-! ## Entries that leave the PQ with their tag: Write Responses and memory time-outs (R20, R21, R31, R32, R36, R75, R81, R83). -/

namespace Sys2Proof.Machine

/-! ### The entry of an id leaves -/

/-- R1: entries are distinct objects, so every entry around an entry has another id. -/
theorem split_of_mem {pq : List PqEntry} (hids : (pq.map PqEntry.id).Nodup) {e : PqEntry} (he : e ∈ pq) :
    ∃ before after, pq = before ++ e :: after ∧ (∀ x ∈ before, x.id ≠ e.id) ∧ ∀ x ∈ after, x.id ≠ e.id := by
  obtain ⟨before, after, rfl⟩ := List.append_of_mem he
  rw [List.map_append, List.map_cons, List.nodup_middle, ← List.map_append] at hids
  have hothers : ∀ x ∈ before ++ after, x.id ≠ e.id :=
    fun x hx hid => (List.nodup_cons.mp hids).1 (hid ▸ List.mem_map_of_mem hx)
  exact ⟨before, after, rfl, fun x hx => hothers x (List.mem_append_left _ hx), fun x hx => hothers x (List.mem_append_right _ hx)⟩

/-- R1: the entry of an id. -/
theorem findPq_eq_some {pq : List PqEntry} (hids : (pq.map PqEntry.id).Nodup) {e : PqEntry} (he : e ∈ pq) :
    findPq pq e.id = some e := by
  obtain ⟨before, after, hpq, hbefore, -⟩ := split_of_mem hids he
  exact List.find?_eq_some_iff_append.mpr ⟨beq_self_eq_true _, before, after, hpq, by simpa using hbefore⟩

/-- R20: the entry of an id leaves the PQ and the hazard sets, as the statements spell it. -/
theorem leavePq_of_mem {s : State} (hids : (s.pq.map PqEntry.id).Nodup) {e : PqEntry} (he : e ∈ s.pq) :
    leavePq e.id s = (s.setPq (s.pq.filter fun x => x.id ≠ e.id)).setPrt (prtAfterLeaving [e.id] s.prt) := by
  obtain ⟨before, after, hpq, hbefore, hafter⟩ := split_of_mem hids he
  have hgone : (s.pq.eraseP fun x => x.id == e.id) = before ++ after := by
    rw [hpq, List.eraseP_append_right _ (by simpa using hbefore), List.eraseP_cons_of_pos (by simp)]
  have hrest : (s.pq.filter fun x => x.id ≠ e.id) = before ++ after := by
    rw [hpq, List.filter_append, List.filter_cons_of_neg (by simp), List.filter_eq_self.mpr (by simpa using hbefore),
      List.filter_eq_self.mpr (by simpa using hafter)]
  rw [leavePq_eq, hgone, hrest, prtAfterLeaving_eq]

/-- R139: an offered record meets neither the PQ nor the PRT. -/
theorem offerError_setPq_setPrt (r : ErrorRecord) (pq : List PqEntry) (prt : List PrtEntry) (s : State) :
    offerError r ((s.setPq pq).setPrt prt) = ((offerError r s).setPq pq).setPrt prt := by
  rcases offerError_cases r s with ⟨hroom, h⟩ | ⟨hfull, h⟩ <;> rw [h]
  · exact offerError_of_room r ((s.setPq pq).setPrt prt) hroom
  · exact offerError_of_full r ((s.setPq pq).setPrt prt) hfull

/-! ### Retired and failed -/

/-- R36: what is counted of an entry that retires, as the statements spell it. -/
theorem countReleased_bump_eq (e : PqEntry) (s : State) :
    countReleased e (bump .entriesRetired s) = s.setCounters
      (if e.isRelease then (bump .flagsReleased (bump .entriesRetired s)).counters else (bump .entriesRetired s).counters) := by
  unfold countReleased
  split <;> rfl

/-- R32: the void marks after a failure as the statements spell them. -/
theorem map_voidMarkedBy_eq (e : PqEntry) (s : State) : s.pq.map (PqEntry.voidMarkedBy e.stream) = (afterFailure e s).pq := by
  refine List.map_congr_left fun x _ => ?_
  obtain ⟨id, i, l, bytes, kind, state⟩ := x
  cases kind with
  | plain m => exact (ite_self _).symm
  | release w n v => exact if_congr (and_congr_right fun _ => PqEntry.isSealed_iff _) rfl rfl

/-- R31, R32: the marks and counts of a failure as the statements spell them. -/
theorem markFault_bump_eq (e : PqEntry) (s : State) : markFault e.stream (bump .entriesFailed s) = afterFailure e s := by
  calc markFault e.stream (bump .entriesFailed s)
      = bump .faultMarks ((setStream e.stream { s.streams[e.stream] with faultMark := true } (bump .entriesFailed s)).setPq
          (s.pq.map (PqEntry.voidMarkedBy e.stream))) := rfl
    _ = bump .faultMarks ((setStream e.stream { s.streams[e.stream] with faultMark := true } (bump .entriesFailed s)).setPq
          (afterFailure e s).pq) := by rw [map_voidMarkedBy_eq]
    _ = afterFailure e s := rfl

/-- R21, R36: the retirement of an entry of the PQ. -/
theorem retireEntry_of_mem {s : State} (hids : (s.pq.map PqEntry.id).Nodup) {e : PqEntry} (he : e ∈ s.pq) :
    let left := (s.setPq (s.pq.filter fun x => x.id ≠ e.id)).setPrt (prtAfterLeaving [e.id] s.prt)
    retireEntry e s = checkDrain (voidPass (noticeOfLeaving e .released (left.setCounters
      (if e.isRelease then (bump .flagsReleased (bump .entriesRetired s)).counters
        else (bump .entriesRetired s).counters)))) := by
  rw [retireEntry, leavePq_of_mem hids he, countReleased_bump_eq]
  rfl

/-- R21, R31: the failure of an entry of the PQ, whose record is offered. -/
theorem failEntry_offerError_of_mem {s : State} (hids : (s.pq.map PqEntry.id).Nodup) {e : PqEntry} (he : e ∈ s.pq)
    (r : ErrorRecord) :
    failEntry e (offerError r s) = checkDrain (voidPass (noticeOfLeaving e .failed (afterFailure e (offerError r
      ((s.setPq (s.pq.filter fun x => x.id ≠ e.id)).setPrt (prtAfterLeaving [e.id] s.prt)))))) := by
  have hpq : (offerError r s).pq = s.pq := by rw [offerError_frame]; rfl
  have hprt : (offerError r s).prt = s.prt := by rw [offerError_frame]; rfl
  rw [failEntry, leavePq_of_mem (hpq ▸ hids) (hpq ▸ he), markFault_bump_eq, hpq, hprt, offerError_setPq_setPrt]
  rfl

/-! ### Write Responses -/

/-- R1. -/
theorem pq_ids_nodup {s : State} (hinv : Inv s) : (s.pq.map PqEntry.id).Nodup := by
  obtain ⟨hids, -⟩ := hinv.distinct
  exact hids

/-- R69: only a BUSY tag has an owner. -/
theorem eq_busy_of_tagOwner {tag : Tag} {o : Owner} (h : tagOwner tag = some o) : ∃ timer, tag = .busy o timer := by
  cases tag with
  | busy owner timer =>
    obtain rfl := Option.some.inj h
    exact ⟨timer, rfl⟩
  | free => cases h
  | lapsed => cases h

/-- R69: the tag of an ISSUED entry is BUSY and owned by it. -/
theorem tag_of_issued {s : State} (hinv : Inv s) {e : PqEntry} {t : TagNo} (he : e ∈ s.pq) (hstate : e.state = .issued t) :
    ∃ timer, s.tags[t] = .busy (.pqEntry e.id) timer := by
  obtain ⟨-, hissued, -⟩ := hinv.tags
  exact eq_busy_of_tagOwner (hissued e he t hstate)

/-- R75: a Write Response for the tag of an ISSUED entry frees the tag and ends the entry's write. -/
theorem exec_writeResponse_of_issued {s : State} (hinv : Inv s) (htakes : takesResponses s) {e : PqEntry} {t : TagNo}
    (he : e ∈ s.pq) (hstate : e.state = .issued t) (st : ResponseStatus) :
    exec (.writeResponse t st) s = .next (endWrite t e.id st (setTag t .free s)) := by
  obtain ⟨timer, htag⟩ := tag_of_issued hinv he hstate
  rw [exec_writeResponse_of_takes htakes, takeWriteResponse, htag]

/-- R75. -/
theorem endWrite_of_ok {s : State} {e : PqEntry} {id : Nat} (hfind : findPq s.pq id = some e) (t : TagNo) :
    endWrite t id .ok s = retireEntry e s := by
  simp [endWrite, hfind]

/-- R75. -/
theorem endWrite_of_fault {s : State} {e : PqEntry} {id : Nat} (hfind : findPq s.pq id = some e) (t : TagNo) :
    endWrite t id .fault s = failEntry e (offerError (.writeFault e.stream e.line t) s) := by
  simp [endWrite, hfind]

/-- Settles O25: the response ends the write of the entry that owns the tag, which retires or fails. -/
theorem writeResponseRetiresOrFailsTheEntry : Obligations.WriteResponseRetiresOrFailsTheEntry := by
  intro s t e hinv htakes he hstate drained left
  have hids := pq_ids_nodup hinv
  have hfind : findPq (setTag t .free s).pq e.id = some e := findPq_eq_some hids he
  constructor
  · rw [exec_writeResponse_of_issued hinv htakes he hstate, endWrite_of_ok hfind,
      retireEntry_of_mem (s := setTag t .free s) hids he]
    rfl
  · rw [exec_writeResponse_of_issued hinv htakes he hstate, endWrite_of_fault hfind,
      failEntry_offerError_of_mem (s := setTag t .free s) hids he]
    rfl

/-! ### Memory time-outs -/

/-- R81: at the limit of its timer a BUSY tag lapses and its owner is told. -/
theorem exec_memoryTimeOut_of_due {s : State} (hexpire : timersCanExpire s) {t : TagNo} {o : Owner} {timer : Timer}
    (htag : s.tags[t] = .busy o timer) (hdue : timer.limit ≤ timer.count) :
    exec (.memoryTimeOut t) s = .next (recordExhausted (tellOwnerLapsed t o (bump .memTimeouts (setTag t .lapsed s)))) := by
  obtain ⟨hpor, hclk⟩ := hexpire
  have hruns : timersRun s = true := by simp [timersRun, hpor, hclk]
  have hexec : exec (.memoryTimeOut t) s = .next (expireMemory t s) := congrArg Host.Outcome.next (if_pos hruns)
  rw [hexec, expireMemory, htag]
  exact congrArg Host.Outcome.next (if_pos (decide_eq_true hdue))

/-- R83: sixteen tags are LAPSED when every tag is. -/
theorem tagCount_isLapsed_eq_iff (tags : Vector Tag 16) :
    tagCount tags Tag.isLapsed = 16 ↔ ∀ v : TagNo, tags[v] = .lapsed := by
  have hall : tagCount tags Tag.isLapsed = 16 ↔ ∀ v ∈ allTags, tags[v].isLapsed = true := List.countP_eq_length (l := allTags)
  simpa [mem_allTags, Tag.isLapsed_iff] using hall

/-- R83: the record of the sixteenth LAPSED tag as the statements spell it. -/
theorem recordExhausted_eq (s : State) :
    recordExhausted s = if ∀ v : TagNo, s.tags[v] = .lapsed then offerError .tagsExhausted s else s :=
  if_congr (tagCount_isLapsed_eq_iff s.tags) rfl rfl

/-- R81: a FETCHING owner is PARKED with fault. -/
theorem tellOwnerLapsed_of_prtEntry {s : State} (hids : (s.prt.map PrtEntry.id).Nodup) {p : PrtEntry} (hp : p ∈ s.prt)
    (t : TagNo) :
    tellOwnerLapsed t (.prtEntry p.id) s = parkFetched p.id .fault (offerError (.readTimeout p.stream p.line t) s) := by
  simp [tellOwnerLapsed, find_id_eq_some hids hp]

/-- R81: an ISSUED owner fails. -/
theorem tellOwnerLapsed_of_pqEntry {s : State} (hids : (s.pq.map PqEntry.id).Nodup) {e : PqEntry} (he : e ∈ s.pq)
    (t : TagNo) :
    tellOwnerLapsed t (.pqEntry e.id) s = failEntry e (offerError (.writeTimeout e.stream e.line t) s) := by
  simp [tellOwnerLapsed, findPq_eq_some hids he]

/-- R58, R59: the end of a fetch as the statements spell it, behind an offered record. -/
theorem parkFetched_offerError (id : Nat) (f : Fetched) (r : ErrorRecord) (s : State) :
    parkFetched id f (offerError r s) = (offerError r s).setPrt (s.prt.map fun q =>
      if q.id = id then { q with state := .parked f { count := 0, limit := s.timers.claimTime } } else q) := by
  rw [offerError_frame]
  rfl

/-- Settles O31: the tag lapses, and the owner is told by its kind. -/
theorem memoryTimeOutLapsesTheTag : Obligations.MemoryTimeOutLapsesTheTag := by
  intro s t o timer hinv hexpire htag hdue lapsed drained exhausted
  have hexec := exec_memoryTimeOut_of_due hexpire htag hdue
  have hexhausted (u : State) : recordExhausted u = exhausted u := recordExhausted_eq u
  have hlapsed : bump .memTimeouts (setTag t .lapsed s) = lapsed := rfl
  rw [hexec, hexhausted, hlapsed]
  refine ⟨?_, fun p hp howner => ?_, fun e he howner => ?_⟩
  · rintro rfl
    rfl
  · have hids := prt_ids_nodup hinv
    rw [howner, tellOwnerLapsed_of_prtEntry (s := lapsed) hids hp, parkFetched_offerError]
    rfl
  · have hids := pq_ids_nodup hinv
    rw [howner, tellOwnerLapsed_of_pqEntry (s := lapsed) hids he, failEntry_offerError_of_mem (s := lapsed) hids he]
    rfl

end Sys2Proof.Machine

/-! ## Decode: the window of a page, and the requests that it aborts (R90 to R92). -/

namespace Sys2Proof.Machine

/-! ### The window of a page -/

theorem windowContains_iff (w : Window) (p : Page) :
    windowContains w p = true ↔ w.enabled = true ∧ w.base.toNat ≤ p.toNat ∧ p.toNat ≤ w.limit.toNat := by
  simp [windowContains, and_assoc]

/-- R90: no window decodes the page exactly where none contains it. -/
theorem decodeWindow_eq_none_iff (ws : Vector Window 16) (p : Page) :
    decodeWindow ws p = none ↔ ∀ v : WindowNo, windowContains ws[v] p = false := by
  have hlist : allWindows = List.finRange 16 := rfl
  simp [decodeWindow, hlist]

/-- R90: the window that decodes the page is the lowest-numbered one that contains it. -/
theorem decodeWindow_eq_some_iff (ws : Vector Window 16) (p : Page) (w : WindowNo) :
    decodeWindow ws p = some w ↔
      windowContains ws[w] p = true ∧ ∀ v : WindowNo, v < w → windowContains ws[v] p = false := by
  have hlist : allWindows = List.finRange 16 := rfl
  rw [decodeWindow, hlist, List.find?_eq_some_iff_getElem]
  refine and_congr_right fun _ => ⟨fun ⟨k, hk, hkw, hlower⟩ v hv => ?_, fun hlower => ?_⟩
  · have hval : k = w.val := by simpa using congrArg Fin.val hkw
    simpa using hlower v.val (hval ▸ hv)
  · refine ⟨w.val, by simp, by simp, fun j hj => ?_⟩
    simpa using hlower ⟨j, hj.trans w.isLt⟩ hj

/-- Settles O6: the search finds the first window that contains the page. -/
theorem lowestEnabledWindowDecodes : Obligations.LowestEnabledWindowDecodes := by
  intro ws p
  simp only [decodeWindow_eq_some_iff, decodeWindow_eq_none_iff, ← windowContains_iff, Bool.not_eq_true, implies_true, and_self]

/-! ### Aborted requests -/

section
variable {s : State}

theorem exec_write_of_takes (h : takesTransactions s) (i : StreamNo) (a : Address) (data : List Byte) :
    exec (.write i a data) s = .next (writeTransaction i a data (s.setAnswers [])) := by
  obtain ⟨hpor, hbus, hclk⟩ := h
  simp [exec, execWrite, arriveAtDeviceBus, hpor, hbus, hclk]

theorem exec_read_of_takes (h : takesTransactions s) (i : StreamNo) (a : Address) (n : Nat) :
    exec (.read i a n) s = .next (readTransaction i a n (s.setAnswers [])) := by
  obtain ⟨hpor, hbus, hclk⟩ := h
  simp [exec, execRead, arriveAtDeviceBus, hpor, hbus, hclk]

/-- R114, R115: ABORT with a record, as the statements spell it. -/
theorem answerAbort_offerError (r : ErrorRecord) (s : State) :
    answerAbort (offerError r (s.setAnswers [])) = bump .aborts ((offerError r s).setAnswers [.abort]) := by
  by_cases hroom : s.el.length < 8
  · rw [offerError_of_room r s hroom, offerError_of_room r (s.setAnswers []) hroom]
    rfl
  · rw [offerError_of_full r s (not_lt.mp hroom), offerError_of_full r (s.setAnswers []) (not_lt.mp hroom)]
    rfl

variable {a : Address}

/-- R91. -/
theorem writeTransaction_of_unmapped {data : List Byte} (i : StreamNo) (hform : malformed (offsetOf a) data.length = false)
    (hdecode : decodeWindow s.windows (pageOf a) = none) :
    writeTransaction i a data s = answerAbort (offerError (.unmapped i (lineOf a)) s) := by
  simp [writeTransaction, hform, hdecode]

/-- R91. -/
theorem readTransaction_of_unmapped {n : Nat} (i : StreamNo) (hform : malformed (offsetOf a) n = false)
    (hdecode : decodeWindow s.windows (pageOf a) = none) :
    readTransaction i a n s = answerAbort (offerError (.unmapped i (lineOf a)) s) := by
  simp [readTransaction, hform, hdecode]

/-- R92. -/
theorem writeTransaction_of_refused {data : List Byte} {w : WindowNo} (i : StreamNo)
    (hform : malformed (offsetOf a) data.length = false) (hdecode : decodeWindow s.windows (pageOf a) = some w)
    (hrefuse : s.windows[w].writeTreatment = .refuse) :
    writeTransaction i a data s = answerAbort (offerError (.refused i (lineOf a) w) s) := by
  simp only [writeTransaction, hform, hdecode, Bool.false_eq_true, if_false, if_pos hrefuse]

/-- R92. -/
theorem readTransaction_of_refused {n : Nat} {w : WindowNo} (i : StreamNo)
    (hform : malformed (offsetOf a) n = false) (hdecode : decodeWindow s.windows (pageOf a) = some w)
    (hrefuse : s.windows[w].readTreatment = .refuse) :
    readTransaction i a n s = answerAbort (offerError (.refused i (lineOf a) w) s) := by
  simp only [readTransaction, hform, hdecode, Bool.false_eq_true, if_false, if_pos hrefuse]

end

/-- Settles O9: the form check passes, and the decode ends the transaction before the operating state and the hold are looked at. -/
theorem decodeAbortsUnmappedAndRefused : Obligations.DecodeAbortsUnmappedAndRefused := by
  intro s i a data n htakes hdata hwriteEnd hn hreadEnd
  have hwriteForm := malformed_eq_false (mt List.length_eq_zero_iff.mp hdata) hwriteEnd
  have hreadForm := malformed_eq_false hn hreadEnd
  rw [exec_write_of_takes htakes, exec_read_of_takes htakes]
  refine ⟨fun hnone => ?_, fun w hw => ⟨fun hrefuse => ?_, fun hrefuse => ?_⟩⟩
  · have hdecode := (decodeWindow_eq_none_iff s.windows (pageOf a)).mpr hnone
    rw [writeTransaction_of_unmapped (s := s.setAnswers []) i hwriteForm hdecode,
      readTransaction_of_unmapped (s := s.setAnswers []) i hreadForm hdecode, answerAbort_offerError]
    exact ⟨rfl, rfl⟩
  · rw [writeTransaction_of_refused (s := s.setAnswers []) i hwriteForm (decodeWindow_eq_some hw) hrefuse,
      answerAbort_offerError]
  · rw [readTransaction_of_refused (s := s.setAnswers []) i hreadForm (decodeWindow_eq_some hw) hrefuse,
      answerAbort_offerError]

end Sys2Proof.Machine

/-! ## The bytes of a window record, the WRITE ITEM that replaces it, and the records over the three resets (R96, R100, R133, R156). -/

namespace Sys2Proof

/-! ### Numbers in bytes -/

theorem beNat_concat (bs : List Byte) (b : Byte) : beNat (bs ++ [b]) = beNat bs * 256 + b.toNat := by
  simp [beNat]

/-- R149: `k` bytes spell every number below their bound. -/
theorem beNat_beBytes {k n : Nat} (h : n < 256 ^ k) : beNat (beBytes k n) = n := by
  induction k generalizing n with
  | zero => simpa [beBytes, beNat, eq_comm] using h
  | succ k ih =>
    have hdiv : n / 256 < 256 ^ k := Nat.div_lt_of_lt_mul (by rwa [pow_succ'] at h)
    rw [beBytes, beNat_concat, ih hdiv, BitVec.toNat_ofNat]
    omega

/-- R149: bytes are those of the number that they spell. -/
theorem beBytes_beNat (bs : List Byte) : beBytes bs.length (beNat bs) = bs := by
  induction bs using List.reverseRecOn with
  | nil => rfl
  | append_singleton bs b ih =>
    have hb : b.toNat < 256 := b.isLt
    have hlow : BitVec.ofNat 8 (beNat bs * 256 + b.toNat) = b := by
      apply BitVec.eq_of_toNat_eq
      rw [BitVec.toNat_ofNat]
      omega
    have hhigh : (beNat bs * 256 + b.toNat) / 256 = beNat bs := by omega
    rw [List.length_append, List.length_singleton, beNat_concat, beBytes, hhigh, hlow, ih]

end Sys2Proof

namespace Sys2Proof.Machine

/-! ### Codes of one byte -/

theorem boolOfCode_eq_some_iff (b : Byte) (x : Bool) : boolOfCode b = some x ↔ b = boolCode x := by
  revert b x
  decide

theorem writeTreatmentOfCode_eq_some_iff (b : Byte) (x : WriteTreatment) :
    writeTreatmentOfCode b = some x ↔ b = writeTreatmentCode x := by
  cases x <;> (revert b; decide)

theorem readTreatmentOfCode_eq_some_iff (b : Byte) (x : ReadTreatment) :
    readTreatmentOfCode b = some x ↔ b = readTreatmentCode x := by
  cases x <;> (revert b; decide)

/-! ### The record of a window -/

theorem length_windowBytes (r : Window) : (windowBytes r).length = 12 := rfl

/-- A page is a number of 4 bytes. -/
theorem beNat_pageBytes (p : Page) : beNat (beBytes 4 p.toNat) = p.toNat :=
  beNat_beBytes (p.isLt.trans (by decide))

/-- Four bytes that spell a page are those of the page. -/
theorem pageBytes_of_beNat {b3 b2 b1 b0 : Byte} (h : beNat [b3, b2, b1, b0] ≤ 0x0FFFFFFF) :
    beBytes 4 (BitVec.ofNat 28 (beNat [b3, b2, b1, b0])).toNat = [b3, b2, b1, b0] := by
  rw [BitVec.toNat_ofNat, Nat.mod_eq_of_lt (by omega)]
  exact beBytes_beNat [b3, b2, b1, b0]

/-- Table 9-6: the bytes of a record in range carry it. -/
theorem windowOfBytes_windowBytes {r : Window} (h : r.base.toNat ≤ r.limit.toNat) : windowOfBytes (windowBytes r) = some r := by
  have hbase := beNat_pageBytes r.base
  have hlimit := beNat_pageBytes r.limit
  have hmaxBase := r.base.isLt
  have hmaxLimit := r.limit.isLt
  simp only [beBytes, List.nil_append, List.cons_append] at hbase hlimit
  simp only [windowBytes, windowOfBytes, beBytes, List.nil_append, List.cons_append, hbase, hlimit,
    (boolOfCode_eq_some_iff _ _).mpr rfl, (writeTreatmentOfCode_eq_some_iff _ _).mpr rfl,
    (readTreatmentOfCode_eq_some_iff _ _).mpr rfl]
  rw [if_neg (by omega), BitVec.ofNat_toNat, BitVec.ofNat_toNat, BitVec.setWidth_eq, BitVec.setWidth_eq]

/-- R96, R156: only the bytes of a record in range carry one. -/
theorem eq_windowBytes_of_windowOfBytes {data : List Byte} {r : Window} (h : windowOfBytes data = some r) :
    r.base.toNat ≤ r.limit.toNat ∧ data = windowBytes r := by
  unfold windowOfBytes at h
  split at h
  · rename_i en no b3 b2 b1 b0 l3 l2 l1 l0 wt rt
    split at h
    · rename_i hen hno hwt hrt
      dsimp only at h
      split at h
      · cases h
      · rename_i hrange
        cases h
        have hbase := pageBytes_of_beNat (b3 := b3) (b2 := b2) (b1 := b1) (b0 := b0) (by omega)
        have hlimit := pageBytes_of_beNat (b3 := l3) (b2 := l2) (b1 := l1) (b0 := l0) (by omega)
        refine ⟨?_, ?_⟩
        · rw [BitVec.toNat_ofNat, BitVec.toNat_ofNat, Nat.mod_eq_of_lt (by omega), Nat.mod_eq_of_lt (by omega)]
          omega
        · rw [windowBytes, hbase, hlimit, (boolOfCode_eq_some_iff _ _).mp hen, (boolOfCode_eq_some_iff _ _).mp hno,
            (writeTreatmentOfCode_eq_some_iff _ _).mp hwt, (readTreatmentOfCode_eq_some_iff _ _).mp hrt]
          rfl
    · cases h
  · cases h

theorem windowOfBytes_eq_none_iff (data : List Byte) :
    windowOfBytes data = none ↔ ∀ r : Window, r.base.toNat ≤ r.limit.toNat → data ≠ windowBytes r := by
  rw [Option.eq_none_iff_forall_ne_some]
  refine forall_congr' fun r => ⟨fun h hle heq => h (heq ▸ windowOfBytes_windowBytes hle), fun h heq => ?_⟩
  obtain ⟨hle, hdata⟩ := eq_windowBytes_of_windowOfBytes heq
  exact h hle hdata

/-! ### The WRITE ITEM to a window -/

theorem writeWindow_of_length (w : WindowNo) {data : List Byte} (s : State) (h : data.length ≠ 12) :
    writeWindow w data s = (s, bareReply .frameError) :=
  if_pos h

theorem writeWindow_of_none (w : WindowNo) {data : List Byte} (s : State) (hlen : data.length = 12)
    (h : windowOfBytes data = none) : writeWindow w data s = (s, bareReply .badValue) := by
  simp [writeWindow, hlen, h]

theorem writeWindow_windowBytes (w : WindowNo) {r : Window} (s : State) (h : r.base.toNat ≤ r.limit.toNat) :
    writeWindow w (windowBytes r) s = (s.setWindows (s.windows.set w r), bareReply .ok) := by
  simp [writeWindow, length_windowBytes, windowOfBytes_windowBytes h]

/-- R150: the end of a WRITE_ITEM_WINDOW frame on a ready port is the write of the record, and its reply. -/
theorem exec_writeItemWindow {s : State} (w : WindowNo) {data : List Byte} (ready : portReady s) (h : data.length ≤ 12) :
    let c : Instr := .writeItemWindow w (framedData data)
    let done := writeWindow w data (afterCsRise s s c)
    exec c s = .next (done.1.setReply done.2) :=
  exec_of_parseFrame ready rfl (parseFrame_writeItemFrame _ data h)

/-- Settles O44: on a ready port the command is `writeWindow`, whose branches are the three clauses. -/
theorem windowWriteReplacesTheWholeRecord : Obligations.WindowWriteReplacesTheWholeRecord := by
  intro s w data ready hlen c
  have hexec := exec_writeItemWindow w ready hlen
  refine ⟨fun r hle hdata => ?_, fun h12 hnone => ?_, fun hne => ?_⟩
  · subst hdata
    rw [hexec, writeWindow_windowBytes w _ hle]
    rfl
  · rw [hexec, writeWindow_of_none w _ h12 ((windowOfBytes_eq_none_iff data).mpr hnone)]
    rfl
  · rw [hexec, writeWindow_of_length w _ hne]
    rfl

/-! ### The three resets -/

/-- R100, R133: a D-bus reset leaves the window records and the holds. -/
theorem assertDrstn_windows_hold (s : State) :
    (assertDrstn s).windows = s.windows ∧ ∀ i : StreamNo, (assertDrstn s).streams[i].hold = s.streams[i].hold := by
  unfold assertDrstn
  split
  · exact ⟨rfl, fun _ => rfl⟩
  · split
    · exact ⟨rfl, fun _ => rfl⟩
    · unfold dBusResetEvent
      rw [checkDrain_frame]
      simp [dropHeldTransactions, sealAll_eq]

/-- R126: CLEAR leaves the window records and takes every hold off. -/
theorem clearAll_windows_hold (s : State) :
    (clearAll s).windows = s.windows ∧ ∀ i : StreamNo, (clearAll s).streams[i].hold = false := by
  simp [clearAll, mapStreams]

/-- R126: CLEAR in OFFLINE on a ready port. -/
theorem exec_clear_of_offline {s : State} {hi lo : Byte} {data : List Byte} (ready : portReady s) (hoffline : s.opState = .offline)
    (h : data.length ≤ 12) :
    let c : Instr := .clear (framed hi lo data)
    exec c s = .next ((clearAll (afterCsRise s s c)).setReply (bareReply .ok)) := by
  intro c
  have hop : (afterCsRise s s c).opState = .offline := hoffline
  have haction (r : FrameRequest) : rowAction c r (afterCsRise s s c) = (clearAll (afterCsRise s s c), bareReply .ok) := by
    simp [c, rowAction, clearAction, hop]
  rw [exec_of_parseFrame (c := c) ready rfl (parseFrame_commandFrame .clear hi lo data h (by simp [fixedDataLength])), haction]

/-- Settles O38: the power-on values, the D-bus reset's frame and CLEAR's. -/
theorem windowsAndHoldsOverTheResets : Obligations.WindowsAndHoldsOverTheResets := by
  intro s
  refine ⟨⟨powerOnState s, rfl, ?_, ?_⟩, ⟨assertDrstn s, rfl, assertDrstn_windows_hold s⟩, fun hi lo data ready hoffline hlen => ?_⟩
  · simp [powerOnState, State.reset, Window.powerOn]
  · simp [powerOnState, State.reset, StreamRecord.powerOn]
  · exact ⟨_, exec_clear_of_offline ready hoffline hlen, clearAll_windows_hold _⟩

end Sys2Proof.Machine

/-! ## The operations that leave the set-up: the window records, the timer items and the order modes (R25, R88, R155). -/

namespace Sys2Proof.Machine

/-- What software sets up: the window records, the timer items and the order modes of the streams. -/
def State.setUp (s : State) : Vector Window 16 × TimerItems × (StreamNo → OrderMode) :=
  (s.windows, s.timers, fun i => s.streams[i].orderMode)

section
variable (u : State)

theorem setUp_foldl {α : Type} {f : State → α → State} (h : ∀ v a, (f v a).setUp = v.setUp) (l : List α) :
    (l.foldl f u).setUp = u.setUp := by
  induction l generalizing u with
  | nil => rfl
  | cons a l ih => exact (ih _).trans (h u a)

/-! ### Updates of the other fields -/

@[simp] theorem setUp_setPor (x : Bool) : (u.setPor x).setUp = u.setUp := rfl
@[simp] theorem setUp_setDrstn (x : Bool) : (u.setDrstn x).setUp = u.setUp := rfl
@[simp] theorem setUp_setReady (x : Bool) : (u.setReady x).setUp = u.setUp := rfl
@[simp] theorem setUp_setRefclkStopped (x : Bool) : (u.setRefclkStopped x).setUp = u.setUp := rfl
@[simp] theorem setUp_setBusReset (x : Bool) : (u.setBusReset x).setUp = u.setUp := rfl
@[simp] theorem setUp_setOpState (x : OpState) : (u.setOpState x).setUp = u.setUp := rfl
@[simp] theorem setUp_setPq (x : List PqEntry) : (u.setPq x).setUp = u.setUp := rfl
@[simp] theorem setUp_setPrt (x : List PrtEntry) : (u.setPrt x).setUp = u.setUp := rfl
@[simp] theorem setUp_setTags (x : Vector Tag 16) : (u.setTags x).setUp = u.setUp := rfl
@[simp] theorem setUp_setLastGranted (x : LinkClass) : (u.setLastGranted x).setUp = u.setUp := rfl
@[simp] theorem setUp_setNq (x : List Notice) : (u.setNq x).setUp = u.setUp := rfl
@[simp] theorem setUp_setNoticesLost (x : Nat) : (u.setNoticesLost x).setUp = u.setUp := rfl
@[simp] theorem setUp_setEl (x : List ErrorRecord) : (u.setEl x).setUp = u.setUp := rfl
@[simp] theorem setUp_setErrorsLost (x : Nat) : (u.setErrorsLost x).setUp = u.setUp := rfl
@[simp] theorem setUp_setCounters (x : Vector Nat 19) : (u.setCounters x).setUp = u.setUp := rfl
@[simp] theorem setUp_setReply (x : Reply) : (u.setReply x).setUp = u.setUp := rfl
@[simp] theorem setUp_setFrameInProgress (x : FrameProgress) : (u.setFrameInProgress x).setUp = u.setUp := rfl
@[simp] theorem setUp_setTbCount (x : Fin 50) : (u.setTbCount x).setUp = u.setUp := rfl
@[simp] theorem setUp_setHeld (x : List HeldEvent) : (u.setHeld x).setUp = u.setUp := rfl
@[simp] theorem setUp_setPortWaiting (x : List PortEvent) : (u.setPortWaiting x).setUp = u.setUp := rfl
@[simp] theorem setUp_setCycleInputs (x : List CycleInput) : (u.setCycleInputs x).setUp = u.setUp := rfl
@[simp] theorem setUp_setAnswers (x : List Answer) : (u.setAnswers x).setUp = u.setUp := rfl
@[simp] theorem setUp_setRequests (x : List LinkRequest) : (u.setRequests x).setUp = u.setUp := rfl
@[simp] theorem setUp_setMisos (x : List Miso) : (u.setMisos x).setUp = u.setUp := rfl
@[simp] theorem setUp_setNextId (x : Nat) : (u.setNextId x).setUp = u.setUp := rfl

/-! ### Counts, reports and answers -/

@[simp] theorem setUp_bump (c : Counter) : (bump c u).setUp = u.setUp := rfl
@[simp] theorem setUp_answerAccept : (answerAccept u).setUp = u.setUp := rfl
@[simp] theorem setUp_answerRetry (r : RetryReason) : (answerRetry r u).setUp = u.setUp := rfl
@[simp] theorem setUp_answerData (bytes : List Byte) : (answerData bytes u).setUp = u.setUp := rfl
@[simp] theorem setUp_answerAbort : (answerAbort u).setUp = u.setUp := rfl

@[simp] theorem setUp_offerError (r : ErrorRecord) : (offerError r u).setUp = u.setUp := by
  rw [offerError_frame]
  simp

@[simp] theorem setUp_noticeOfLeaving (e : PqEntry) (o : ReleaseOutcome) : (noticeOfLeaving e o u).setUp = u.setUp := by
  rw [noticeOfLeaving_frame]
  simp

/-! ### Streams and seals -/

theorem setUp_mapStreams {f : StreamNo → StreamRecord → StreamRecord} (h : ∀ i r, (f i r).orderMode = r.orderMode) :
    (mapStreams f u).setUp = u.setUp := by
  simp [State.setUp, mapStreams, h]

theorem setUp_setStream {i : StreamNo} {r : StreamRecord} (h : r.orderMode = u.streams[i].orderMode) :
    (setStream i r u).setUp = u.setUp := by
  have hmode (j : StreamNo) : (setStream i r u).streams[j].orderMode = u.streams[j].orderMode := by
    rw [setStream_get]
    split
    · rename_i hj
      rw [h, hj]
    · rfl
  simp only [State.setUp, hmode]
  rfl

@[simp] theorem setUp_setOpenEntry (i : StreamNo) (ref : Option Nat) : (setOpenEntry i ref u).setUp = u.setUp :=
  setUp_setStream u rfl

@[simp] theorem setUp_sealWhere (cause : PqEntry → Bool) : (sealWhere cause u).setUp = u.setUp :=
  setUp_mapStreams _ fun i r => by split <;> rfl

@[simp] theorem setUp_sealAll : (sealAll u).setUp = u.setUp :=
  setUp_mapStreams _ fun _ _ => rfl

theorem setUp_clearAll : (clearAll u).setUp = u.setUp := by
  unfold clearAll
  rw [setUp_mapStreams _ fun _ _ => by rfl]
  simp

@[simp] theorem setUp_sealsBeforeAppend (i : StreamNo) (l : Line) : (sealsBeforeAppend i l u).setUp = u.setUp :=
  (setUp_sealWhere _ _).trans (setUp_sealWhere u _)

/-! ### The drain, the PRT and entries that leave -/

@[simp] theorem setUp_checkDrain : (checkDrain u).setUp = u.setUp := by
  rw [checkDrain_frame]
  simp

@[simp] theorem setUp_freePrt (id : Nat) : (freePrt id u).setUp = u.setUp :=
  setUp_checkDrain _

@[simp] theorem setUp_parkFetched (id : Nat) (r : Fetched) : (parkFetched id r u).setUp = u.setUp := rfl

@[simp] theorem setUp_writeMeetsPrt (l : Line) : (writeMeetsPrt l u).setUp = u.setUp := rfl

@[simp] theorem setUp_voidPass : (voidPass u).setUp = u.setUp := by
  obtain ⟨q, p, c, n, k, h, -, -⟩ := voidPass_frame u
  simp [h]

@[simp] theorem setUp_afterLeaving : (afterLeaving u).setUp = u.setUp :=
  (setUp_checkDrain _).trans (setUp_voidPass u)

@[simp] theorem setUp_leavePq (id : Nat) : (leavePq id u).setUp = u.setUp := rfl

@[simp] theorem setUp_countReleased (e : PqEntry) : (countReleased e u).setUp = u.setUp := by
  unfold countReleased
  split <;> rfl

@[simp] theorem setUp_retireEntry (e : PqEntry) : (retireEntry e u).setUp = u.setUp := by
  simp [retireEntry]

@[simp] theorem setUp_markFault (i : StreamNo) : (markFault i u).setUp = u.setUp :=
  setUp_setStream u rfl

@[simp] theorem setUp_failEntry (e : PqEntry) : (failEntry e u).setUp = u.setUp := by
  simp [failEntry]

/-! ### Tags, responses and grants -/

@[simp] theorem setUp_setTag (t : TagNo) (r : Tag) : (setTag t r u).setUp = u.setUp := rfl

@[simp] theorem setUp_lateResponse (t : TagNo) : (lateResponse t u).setUp = u.setUp :=
  setUp_offerError ..

@[simp] theorem setUp_unexpectedResponse (t : TagNo) : (unexpectedResponse t u).setUp = u.setUp :=
  setUp_offerError ..

@[simp] theorem setUp_endWrite (t : TagNo) (id : Nat) (st : ResponseStatus) : (endWrite t id st u).setUp = u.setUp := by
  unfold endWrite
  split <;> simp

@[simp] theorem setUp_endFetch (t : TagNo) (id : Nat) (r : ReadResult) : (endFetch t id r u).setUp = u.setUp := by
  unfold endFetch
  split <;> simp

theorem setUp_takeWriteResponse (t : TagNo) (st : ResponseStatus) : (takeWriteResponse t st u).setUp = u.setUp := by
  unfold takeWriteResponse
  split <;> simp

theorem setUp_takeReadResponse (t : TagNo) (r : ReadResult) : (takeReadResponse t r u).setUp = u.setUp := by
  unfold takeReadResponse
  split <;> simp

theorem setUp_grantOnce : (grantOnce u).setUp = u.setUp := by
  obtain ⟨tags, q, p, g, r, h⟩ := grantOnce_frame u
  simp [h]

@[simp] theorem setUp_takeDueGrants : (takeDueGrants u).setUp = u.setUp :=
  setUp_foldl u (fun v _ => setUp_grantOnce v) _

/-! ### Timer expiries -/

@[simp] theorem setUp_expireCombineAge (i : StreamNo) : (expireCombineAge i u).setUp = u.setUp :=
  setUp_sealWhere ..

@[simp] theorem setUp_expireClaim (i : StreamNo) (l : Line) : (expireClaim i l u).setUp = u.setUp := by
  rcases expireClaim_cases i l u with h | ⟨p, -, -, -, -, h⟩ <;> simp [h]

@[simp] theorem setUp_expireLinger (i : StreamNo) (l : Line) : (expireLinger i l u).setUp = u.setUp := by
  rcases expireLinger_cases i l u with h | ⟨p, -, -, -, -, h⟩ <;> simp [h]

@[simp] theorem setUp_recordExhausted : (recordExhausted u).setUp = u.setUp := by
  unfold recordExhausted
  split <;> simp

@[simp] theorem setUp_tellOwnerLapsed (t : TagNo) (o : Owner) : (tellOwnerLapsed t o u).setUp = u.setUp := by
  unfold tellOwnerLapsed
  split
  · split <;> simp
  · split <;> simp
  · rfl

@[simp] theorem setUp_expireMemory (t : TagNo) : (expireMemory t u).setUp = u.setUp := by
  rcases expireMemory_cases t u with h | ⟨o, timer, -, -, h⟩ <;> simp [h]

theorem setUp_takeDueExpiries : (takeDueExpiries u).setUp = u.setUp := by
  unfold takeDueExpiries
  simp only [setUp_foldl _ fun v t => setUp_expireMemory v t, setUp_foldl _ fun v i => setUp_expireCombineAge v i,
    setUp_foldl _ fun v (p : PrtEntry) => setUp_expireClaim v p.stream p.line,
    setUp_foldl _ fun v (p : PrtEntry) => setUp_expireLinger v p.stream p.line]

theorem setUp_takeDue : (takeDue u).setUp = u.setUp :=
  (setUp_takeDueGrants _).trans (setUp_takeDueExpiries u)

/-! ### Transactions -/

variable (i : StreamNo) (l : Line) (bytes : ByteSet)

@[simp] theorem setUp_mergeInto (e : PqEntry) : (mergeInto e bytes u).setUp = u.setUp := by
  unfold mergeInto
  dsimp only
  split <;> simp

@[simp] theorem setUp_appendEntry (kind : EntryKind) (state : EntryState) :
    (appendEntry i l bytes kind state u).setUp = u.setUp := rfl

@[simp] theorem setUp_appendFor (tr : WriteTreatment) (w : WindowNo) (notify : Bool) :
    (appendFor tr i l bytes w notify u).setUp = u.setUp := by
  cases tr with
  | merge =>
    dsimp only [appendFor, appendMerge]
    split <;> simp
  | post => rfl
  | release => rfl
  | refuse => rfl

@[simp] theorem setUp_postWrite (tr : WriteTreatment) (w : WindowNo) (notify : Bool) :
    (postWrite tr i l bytes w notify u).setUp = u.setUp := by
  unfold postWrite
  split
  · simp
  · unfold postNewEntry
    split <;> simp

theorem setUp_checkStateAndHold {work : State → State} (h : (work u).setUp = u.setUp) :
    (checkStateAndHold i work u).setUp = u.setUp := by
  unfold checkStateAndHold
  split
  · rfl
  · split
    · rfl
    · exact h

theorem setUp_writeTransaction (a : Address) (data : List Byte) : (writeTransaction i a data u).setUp = u.setUp := by
  unfold writeTransaction
  split
  · simp
  · split
    · simp
    · split
      · simp
      · exact setUp_checkStateAndHold u i (setUp_postWrite ..)

@[simp] theorem setUp_serveMatch (p : PrtEntry) (o : Offset) (n : Nat) : (serveMatch p o n u).setUp = u.setUp := by
  unfold serveMatch
  split
  · rfl
  · rfl
  · simp
  · unfold claimParked
    split <;> simp [updatePrt]
  · rfl

@[simp] theorem setUp_parkRead (rt : ReadTreatment) (o : Offset) (n : Nat) : (parkRead rt i l o n u).setUp = u.setUp := by
  simp [parkRead]

theorem setUp_parkRequest (rt : ReadTreatment) (o : Offset) (n : Nat) : (parkRequest rt i l o n u).setUp = u.setUp := by
  unfold parkRequest
  split
  · rfl
  · split
    · simp
    · split <;> simp

theorem setUp_readTransaction (a : Address) (n : Nat) : (readTransaction i a n u).setUp = u.setUp := by
  unfold readTransaction
  split
  · simp
  · split
    · simp
    · split
      · simp
      · split
        · simp
        · exact setUp_checkStateAndHold u i (setUp_parkRequest ..)

/-! ### Arrivals, the port and the D-bus reset -/

theorem setUp_arriveAtDeviceBus (c : Instr) {take : State → State} (h : (take u).setUp = u.setUp) :
    (arriveAtDeviceBus c take u).setUp = u.setUp := by
  rcases arriveAtDeviceBus_cases c take u with ⟨-, heq⟩ | ⟨-, -, -, heq⟩ | ⟨-, -, -, heq⟩ <;> rw [heq]
  · rfl
  · exact h

theorem setUp_arriveAtMemoryLink (c : Instr) {take : State → State} (h : (take u).setUp = u.setUp) :
    (arriveAtMemoryLink c take u).setUp = u.setUp := by
  rcases arriveAtMemoryLink_cases c take u with ⟨-, heq⟩ | ⟨-, -, heq⟩ | ⟨-, -, heq⟩ <;> rw [heq]
  · rfl
  · exact h

@[simp] theorem setUp_frameEnded (f : Frame) : (frameEnded f u).setUp = u.setUp := by
  simp [frameEnded_eq]

@[simp] theorem setUp_takeSpoiledFrame : (takeSpoiledFrame u).setUp = u.setUp := rfl

@[simp] theorem setUp_holdEvent (x : HeldEvent) : (holdEvent x u).setUp = u.setUp := rfl

@[simp] theorem setUp_waitAtPort (events : List PortEvent) : (waitAtPort events u).setUp = u.setUp := rfl

@[simp] theorem setUp_portEdges (edges : List PortEdge) : (portEdges edges u).setUp = u.setUp := rfl

@[simp] theorem setUp_holdFrameEnd (c : Instr) (f : Frame) : (holdFrameEnd c f u).setUp = u.setUp := by
  rcases holdFrameEnd_cases c f u with ⟨-, h⟩ | ⟨-, h⟩ <;> simp [h]

theorem setUp_resumePort (events : List PortEvent) : (resumePort events u).setUp = u.setUp := by
  induction events generalizing u with
  | nil => rfl
  | cons e rest ih =>
    cases e with
    | edge e => exact (ih _).trans (setUp_portEdges u [e])
    | frameEnd c =>
      unfold resumePort
      split
      · simp
      · exact ih u

theorem setUp_assertDrstn : (assertDrstn u).setUp = u.setUp := by
  unfold assertDrstn
  split
  · rfl
  · split
    · rfl
    · simp [dBusResetEvent, dropHeldTransactions]

end

end Sys2Proof.Machine

/-! ## The set-up over every command (R25, R41, R88, R96, R155, R162): the rows that write it, and the writes that waited. -/

namespace Sys2Proof.Machine

/-! ### Writes -/

/-- From `u` to `v` a part of the set-up moved only where a command taken writes it. -/
structure SetUpMoves (taken : List Instr) (u v : State) : Prop where
  windows : ∀ w : WindowNo, v.windows[w] ≠ u.windows[w] → ∃ tail, .writeItemWindow w tail ∈ taken
  timers : ∀ k : TimerItem, timerValue v.timers k ≠ timerValue u.timers k → ∃ tail, .writeItemTimer k tail ∈ taken
  orderModes : ∀ i : StreamNo, v.streams[i].orderMode ≠ u.streams[i].orderMode → ∃ tail, .writeItemOrderMode i tail ∈ taken

namespace SetUpMoves

variable {taken taken' : List Instr} {u v w : State}

theorem of_eq (h : v.setUp = u.setUp) : SetUpMoves taken u v := by
  simp only [State.setUp, Prod.mk.injEq] at h
  obtain ⟨hwindows, htimers, hmodes⟩ := h
  exact {
    windows := fun w hw => absurd (by rw [hwindows]) hw
    timers := fun k hk => absurd (by rw [htimers]) hk
    orderModes := fun i hi => absurd (congrFun hmodes i) hi }

theorem refl (u : State) : SetUpMoves taken u u :=
  of_eq rfl

theorem mono (h : SetUpMoves taken u v) (hsub : taken ⊆ taken') : SetUpMoves taken' u v where
  windows w hw := (h.windows w hw).imp fun _ ht => hsub ht
  timers k hk := (h.timers k hk).imp fun _ ht => hsub ht
  orderModes i hi := (h.orderModes i hi).imp fun _ ht => hsub ht

theorem trans (h : SetUpMoves taken u v) (h' : SetUpMoves taken v w) : SetUpMoves taken u w where
  windows k hk := by
    by_cases hmid : w.windows[k] = v.windows[k]
    · exact h.windows k (hmid ▸ hk)
    · exact h'.windows k hmid
  timers k hk := by
    by_cases hmid : timerValue w.timers k = timerValue v.timers k
    · exact h.timers k (hmid ▸ hk)
    · exact h'.timers k hmid
  orderModes i hi := by
    by_cases hmid : w.streams[i].orderMode = v.streams[i].orderMode
    · exact h.orderModes i (hmid ▸ hi)
    · exact h'.orderModes i hmid

end SetUpMoves

theorem timerValue_setTimerValue (t : TimerItems) (k j : TimerItem) (n : Nat) :
    timerValue (setTimerValue t k n) j = if j = k then n else timerValue t j := by
  cases k <;> cases j <;> rfl

theorem windows_set_get (ws : Vector Window 16) (w v : WindowNo) (r : Window) :
    (ws.set w r)[v] = if v = w then r else ws[v] := by
  by_cases h : v = w
  · simp [h]
  · have hval : w.val ≠ v.val := fun hwv => h (Fin.ext hwv.symm)
    simp [h, hval]

section
variable (u : State) (tail : FrameTail) (data : List Byte)

/-- R155. -/
theorem setUpMoves_writeTimer (k : TimerItem) : SetUpMoves [.writeItemTimer k tail] u (writeTimer k data u).1 := by
  unfold writeTimer
  split
  · exact .refl u
  · split
    · refine { SetUpMoves.refl u with timers := fun j hj => ?_ }
      have hjk : j = k := by_contra fun hne => hj (by rw [State.setTimers_timers, timerValue_setTimerValue, if_neg hne])
      exact ⟨tail, by rw [hjk]; exact List.mem_singleton_self _⟩
    · exact .refl u

/-- R96. -/
theorem setUpMoves_writeWindow (w : WindowNo) : SetUpMoves [.writeItemWindow w tail] u (writeWindow w data u).1 := by
  unfold writeWindow
  split
  · exact .refl u
  · split
    · exact .refl u
    · refine { SetUpMoves.refl u with windows := fun v hv => ?_ }
      have hvw : v = w := by_contra fun hne => hv (by rw [State.setWindows_windows, windows_set_get, if_neg hne])
      exact ⟨tail, by rw [hvw]; exact List.mem_singleton_self _⟩

/-- R41. -/
theorem setUpMoves_writeOrderMode (i : StreamNo) :
    SetUpMoves [.writeItemOrderMode i tail] u (writeOrderMode i data u).1 := by
  unfold writeOrderMode
  split
  · split
    · exact .refl u
    · split
      · refine { SetUpMoves.refl u with orderModes := fun j hj => ?_ }
        have hji : j = i := by_contra fun hne => hj (by rw [setStream_get, if_neg hne])
        exact ⟨tail, by rw [hji]; exact List.mem_singleton_self _⟩
      · exact .refl u
  · exact .refl u

end

/-! ### The row of a frame -/

theorem itemFieldOfTail_of_parseFrame {c : Command} {t : FrameTail} {r : FrameRequest}
    (h : parseFrame (commandFrame c t) = some r) : itemFieldOfTail t.bytes = some r.item := by
  unfold parseFrame commandFrame at h
  dsimp only at h
  split at h
  · rename_i b hi lo len data hbytes
    simp only [List.cons.injEq] at hbytes
    obtain ⟨-, hbytes⟩ := hbytes
    split at h
    · cases h
    · split_ifs at h
      cases h
      rw [hbytes]
      rfl
  · cases h

/-- R153: the WRITE_ITEM row's own frames name no item that can be written. -/
theorem writeItemAction_of_wellFormed {t : FrameTail} {r : FrameRequest} (u : State) (hwf : writeItemWellFormed t = true)
    (hitem : itemFieldOfTail t.bytes = some r.item) : (writeItemAction r u).1 = u := by
  unfold writeItemWellFormed at hwf
  rw [hitem] at hwf
  unfold writeItemAction
  cases hnumber : itemOfNumber r.item with
  | none => rfl
  | some item =>
    cases item with
    | timer k => simp [hnumber] at hwf
    | window w => simp [hnumber] at hwf
    | stream i => simp [hnumber] at hwf
    | _ => rfl

/-- A row other than WRITE_ITEM writes its own item, or none. -/
theorem setUpMoves_rowAction {c : Instr} (r : FrameRequest) (u : State) (hrow : ∀ t, c ≠ .writeItem t) :
    SetUpMoves [c] u (rowAction c r u).1 := by
  cases c with
  | writeItem t => exact absurd rfl (hrow t)
  | writeItemWindow w tail => exact setUpMoves_writeWindow u tail r.data w
  | writeItemTimer k tail => exact setUpMoves_writeTimer u tail r.data k
  | writeItemOrderMode i tail => exact setUpMoves_writeOrderMode u tail r.data i
  | readItem =>
    refine .of_eq ?_
    dsimp only [rowAction, readItemAction]
    split <;> rfl
  | start =>
    refine .of_eq ?_
    dsimp only [rowAction, startAction]
    split <;> rfl
  | stop =>
    refine .of_eq ?_
    dsimp only [rowAction, stopAction]
    split <;> simp
  | clear =>
    refine .of_eq ?_
    dsimp only [rowAction, clearAction]
    split
    · exact setUp_clearAll u
    · rfl
    · rfl
  | hold =>
    dsimp only [rowAction, holdAction]
    exact .of_eq ((setUp_mapStreams _ fun i rec => by split <;> rfl).trans (setUp_sealWhere ..))
  | unhold =>
    dsimp only [rowAction, unholdAction]
    exact .of_eq (setUp_mapStreams u fun i rec => by split <;> rfl)
  | clearFault =>
    dsimp only [rowAction, clearFaultAction]
    exact .of_eq (setUp_mapStreams u fun i rec => by split <;> rfl)
  | takeNotice =>
    refine .of_eq ?_
    dsimp only [rowAction, takeNoticeAction]
    split <;> rfl
  | takeErrorRecordForm =>
    refine .of_eq ?_
    dsimp only [rowAction, takeErrorAction, takeRecord]
    split
    · split <;> rfl
    · split <;> rfl
  | takeErrorLostCountForm => exact .of_eq rfl
  | freeLapsed => exact .of_eq (setUp_setTags u _)
  | _ => exact .refl u

/-- A frame of a well-formed command writes the command's own item, or none. -/
theorem setUpMoves_takeFrame {c : Instr} {f : Frame} (hf : frameOfInstr c = some f) (hwf : c.WellFormed = true) (u : State) :
    SetUpMoves [c] u (takeFrame c f u) := by
  rcases takeFrame_cases c f u with ⟨-, heq⟩ | ⟨r, hr, heq⟩
  · rw [heq]
    exact .of_eq rfl
  · have haction : SetUpMoves [c] u (rowAction c r u).1 := by
      by_cases hrow : ∃ t, c = .writeItem t
      · obtain ⟨t, rfl⟩ := hrow
        cases hf
        exact .of_eq (congrArg State.setUp (writeItemAction_of_wellFormed u hwf (itemFieldOfTail_of_parseFrame hr)))
      · exact setUpMoves_rowAction r u (not_exists.mp hrow)
    rw [heq]
    exact haction.trans (.of_eq rfl)

/-- The end of a frame on the port leaves the set-up, or takes the frame. -/
theorem setUpMoves_endFrame {c : Instr} {f : Frame} (hf : frameOfInstr c = some f) (hwf : c.WellFormed = true) (u : State) :
    SetUpMoves [c] u (endFrame c u) := by
  rw [endFrame_eq c f u hf]
  rcases arriveAtManagement_cases c f (u.setMisos []) with ⟨-, heq⟩ | ⟨-, -, heq⟩ | ⟨-, -, -, heq⟩ | ⟨-, -, -, heq⟩ <;> rw [heq]
  · exact .of_eq (by simp)
  · rcases takeFrameEnd_cases c f (u.setMisos []) with ⟨-, heq⟩ | ⟨-, heq⟩ <;> rw [heq]
    · exact .of_eq (by simp)
    · have hended : SetUpMoves [c] u (frameEnded f (u.setMisos [])) := .of_eq (by simp)
      exact hended.trans (setUpMoves_takeFrame hf hwf _)
  · exact .of_eq (by simp)
  · exact .of_eq (by simp)

/-! ### A cycle: the commands that wait only become fewer, and write the set-up as they are taken up -/

/-- From `u` to `v` no command began to wait, and the set-up moved only where the commands taken write it, if those are well-formed. -/
structure TakesUp (taken : List Instr) (u v : State) : Prop where
  waiting : waitingCommands v ⊆ waitingCommands u
  setUp : (∀ d ∈ taken, d.WellFormed = true) → SetUpMoves taken u v

namespace TakesUp

variable {taken taken' : List Instr} {u v w : State}

theorem mono (h : TakesUp taken u v) (hsub : taken ⊆ taken') : TakesUp taken' u v where
  waiting := h.waiting
  setUp hwf := (h.setUp fun d hd => hwf d (hsub hd)).mono hsub

theorem trans (h : TakesUp taken u v) (h' : TakesUp taken v w) : TakesUp taken u w where
  waiting := List.Subset.trans h'.waiting h.waiting
  setUp hwf := (h.setUp hwf).trans (h'.setUp hwf)

/-- What waits after the first operation waited before it. -/
theorem trans_waiting (h : TakesUp (waitingCommands u) u v) (h' : TakesUp (waitingCommands v) v w) :
    TakesUp (waitingCommands u) u w :=
  h.trans (h'.mono h.waiting)

theorem of_setUp (hwaiting : waitingCommands v ⊆ waitingCommands u) (hsetUp : v.setUp = u.setUp) : TakesUp taken u v :=
  ⟨hwaiting, fun _ => .of_eq hsetUp⟩

/-- What leaves the events that wait. -/
theorem of_same (hheld : v.held = u.held) (hport : v.portWaiting = u.portWaiting) (hsetUp : v.setUp = u.setUp) :
    TakesUp taken u v :=
  of_setUp (by rw [waitingCommands, hheld, hport]; exact List.Subset.refl _) hsetUp

theorem of_keeps {moving : List Instr} (h : KeepsAccount moving u v) (hsetUp : v.setUp = u.setUp) : TakesUp taken u v :=
  of_same h.2.1 h.2.2 hsetUp

theorem of_quiet (h : MarksQuiet u v) (hsetUp : v.setUp = u.setUp) : TakesUp taken u v :=
  of_same h.held h.portWaiting hsetUp

theorem refl (u : State) : TakesUp taken u u :=
  of_same rfl rfl rfl

end TakesUp

theorem holdFrameEnd_held_commands (c : Instr) (f : Frame) (u : State) :
    (holdFrameEnd c f u).held.filterMap HeldEvent.command ⊆ u.held.filterMap HeldEvent.command ++ [c] := by
  rcases holdFrameEnd_cases c f u with ⟨-, h⟩ | ⟨-, h⟩ <;> rw [h] <;>
    simp [holdEvent, frameEnded, HeldEvent.command]

/-- R148: what the port looks at waited on it, or is held now. -/
theorem waitingCommands_resumePort (events : List PortEvent) (u : State) :
    waitingCommands (resumePort events u) ⊆
      u.held.filterMap HeldEvent.command ++ events.filterMap PortEvent.command := by
  induction events generalizing u with
  | nil => exact List.Subset.refl _
  | cons e rest ih =>
    cases e with
    | edge e => exact ih (portEdges [e] u)
    | frameEnd c =>
      unfold resumePort
      split
      · rename_i f _
        intro d hd
        rcases List.mem_append.mp hd with hheld | hport
        · have hmem := holdFrameEnd_held_commands c f u hheld
          simp only [List.mem_append, List.mem_singleton] at hmem
          rcases hmem with hmem | rfl
          · exact List.mem_append_left _ hmem
          · exact List.mem_append_right _ List.mem_cons_self
        · exact List.mem_append_right _ (List.mem_cons_of_mem _ hport)
      · exact List.Subset.trans (ih u) ((List.sublist_cons_self c _).append_left _).subset

/-- R162: a held frame is taken as one that ends on the port, and then the port goes on. -/
theorem takesUp_takeHeldFrame (c : Instr) (u : State) : TakesUp [c] u (takeHeldFrame c u) := by
  unfold takeHeldFrame
  split
  · rename_i f hf
    obtain ⟨-, hheld, -⟩ := keepsAccount_takeFrame (List.mem_singleton_self c) f u
    have hwaiting := waitingCommands_resumePort u.portWaiting (takeFrame c f u)
    rw [hheld] at hwaiting
    exact ⟨hwaiting, fun hwf =>
      (setUpMoves_takeFrame hf (hwf c (List.mem_singleton_self c)) u).trans (.of_eq (setUp_resumePort ..))⟩
  · exact .refl u

/-- R162: a held event makes no command wait, and moves the set-up only as its own command writes it. -/
theorem takesUp_takeEvent (x : HeldEvent) (u : State) : TakesUp x.command.toList u (takeEvent x u) := by
  unfold takeEvent
  split
  · have hwaiting := waitingCommands_resumePort u.portWaiting (takeSpoiledFrame u)
    exact .of_setUp hwaiting ((setUp_resumePort ..).trans (setUp_takeSpoiledFrame u))
  · exact .of_keeps (moving := []) (keepsAccount_writeTransaction ..) (setUp_writeTransaction ..)
  · exact .of_quiet (marksQuiet_readTransaction ..) (setUp_readTransaction ..)
  · exact .of_keeps (keepsAccount_takeWriteResponse _ _ u (List.mem_singleton_self _)) (setUp_takeWriteResponse ..)
  · exact .of_quiet (marksQuiet_takeReadResponse ..) (setUp_takeReadResponse ..)
  · exact takesUp_takeHeldFrame ..

theorem takesUp_takeOldestHeld (u : State) : TakesUp (waitingCommands u) u (takeOldestHeld u) := by
  rcases takeOldestHeld_cases u with ⟨-, heq⟩ | ⟨x, rest, hheld, heq⟩
  · rw [heq]
    exact .refl u
  · have hfirst : x.command.toList ⊆ waitingCommands u := fun d hd =>
      List.mem_append_left _ (List.mem_filterMap.mpr ⟨x, hheld ▸ List.mem_cons_self, Option.mem_toList.mp hd⟩)
    have hrest : waitingCommands (u.setHeld rest) ⊆ waitingCommands u := by
      unfold waitingCommands
      rw [hheld]
      exact (((List.sublist_cons_self x rest).filterMap _).append_right _).subset
    have hleft : TakesUp (waitingCommands u) u (u.setHeld rest) := .of_setUp hrest (setUp_setHeld ..)
    rw [heq]
    exact (hleft.trans ((takesUp_takeEvent x _).mono hfirst)).trans
      (.of_keeps (moving := []) (keepsAccount_takeDueGrants _) (setUp_takeDueGrants _))

theorem takesUp_takeHeldUpTo (n : Nat) (u : State) : TakesUp (waitingCommands u) u (takeHeldUpTo n u) := by
  induction n generalizing u with
  | zero => exact .refl u
  | succ n ih => exact (takesUp_takeOldestHeld u).trans_waiting (ih _)

theorem takesUp_takeDue (u : State) : TakesUp (waitingCommands u) u (takeDue u) :=
  .of_keeps (moving := []) (keepsAccount_takeDue u) (setUp_takeDue u)

theorem takesUp_takeWaiting (u : State) : TakesUp (waitingCommands u) u (takeWaiting u) := by
  have hclear : TakesUp (waitingCommands u) u (clearOutputs u) := .of_same rfl rfl (by simp [clearOutputs])
  exact (hclear.trans_waiting (takesUp_takeDue _)).trans_waiting (takesUp_takeHeldUpTo _ _)

theorem takesUp_setTbCount (u : State) (n : Fin 50) : TakesUp (waitingCommands u) u (u.setTbCount n) :=
  .of_same rfl rfl (setUp_setTbCount ..)

theorem takesUp_tickOnce (u : State) : TakesUp (waitingCommands u) u (tickOnce u) := by
  have hadvance (v : State) : TakesUp (waitingCommands v) v (advanceTimers v) := .of_same rfl rfl (by simp [advanceTimers])
  exact ((takesUp_takeWaiting u).trans_waiting (hadvance _)).trans_waiting (takesUp_setTbCount ..)

theorem takesUp_refclkOnce (u : State) : TakesUp (waitingCommands u) u (refclkOnce u) := by
  unfold refclkOnce
  split
  · exact takesUp_tickOnce u
  · exact (takesUp_takeWaiting u).trans_waiting (takesUp_setTbCount ..)

/-- R148: edges hold no command. -/
theorem takesUp_takeInput (u : State) : TakesUp (waitingCommands u) u (takeInput u) := by
  unfold takeInput
  rcases edgesArrive_cases u.nextInput.edges (u.setCycleInputs u.cycleInputs.tail) with ⟨-, -, heq⟩ | ⟨-, heq⟩ <;> rw [heq]
  · have hnone : (u.nextInput.edges.map PortEvent.edge).filterMap PortEvent.command = [] :=
      List.filterMap_eq_nil_iff.mpr (by simp [PortEvent.command])
    exact .of_setUp (by simp [waitingCommands, waitAtPort, hnone]) (by simp)
  · exact .of_same rfl rfl (by simp)

theorem takesUp_takeDueBeforeStop (stops : Bool) (u : State) : TakesUp (waitingCommands u) u (takeDueBeforeStop stops u) := by
  rcases takeDueBeforeStop_cases stops u with ⟨-, heq⟩ | ⟨-, heq⟩ <;> rw [heq]
  · exact takesUp_takeDue u
  · exact .refl u

theorem takesUp_setRefclkStopped (u : State) (x : Bool) : TakesUp (waitingCommands u) u (u.setRefclkStopped x) :=
  .of_same rfl rfl (setUp_setRefclkStopped ..)

/-- R162: a tick or a REFCLK cycle takes up what waits. -/
theorem takesUp_of_cycle {c : Instr} {s t : State} (hc : c = .tick ∨ c = .refclkCycle) (hexec : exec c s = .next t) :
    TakesUp (waitingCommands s) s t := by
  rcases hc with rfl | rfl
  · cases hexec
    split
    · exact .refl s
    · exact (takesUp_tickOnce s).trans_waiting (takesUp_setRefclkStopped ..)
  · cases hexec
    split
    · exact (takesUp_takeInput s).trans_waiting (takesUp_setRefclkStopped ..)
    · exact (((takesUp_takeInput s).trans_waiting (takesUp_refclkOnce _)).trans_waiting (takesUp_takeDueBeforeStop ..)).trans_waiting
        (takesUp_setRefclkStopped ..)

/-! ### Every command -/

/-- A command that is no cycle, no frame and no power-on reset leaves the set-up. -/
theorem setUp_of_event {c : Instr} {s t : State} (hframe : frameOfInstr c = none) (hcycle : ¬(c = .tick ∨ c = .refclkCycle))
    (hreset : c ≠ .powerOnReset) (hexec : exec c s = .next t) : t.setUp = s.setUp := by
  have hexpiry {u : State} (hu : u.setUp = s.setUp) : (if timersRun s then u else s).setUp = s.setUp := by
    split
    · exact hu
    · rfl
  cases c with
  | tick => exact absurd (.inl rfl) hcycle
  | refclkCycle => exact absurd (.inr rfl) hcycle
  | powerOnReset => exact absurd rfl hreset
  | write i a data =>
    cases hexec
    exact setUp_arriveAtDeviceBus _ _ (setUp_writeTransaction ..)
  | read i a n =>
    cases hexec
    exact setUp_arriveAtDeviceBus _ _ (setUp_readTransaction ..)
  | grant =>
    cases hexec
    exact setUp_grantOnce _
  | writeResponse tag st =>
    cases hexec
    exact setUp_arriveAtMemoryLink _ _ (setUp_takeWriteResponse ..)
  | readResponse tag r =>
    cases hexec
    exact setUp_arriveAtMemoryLink _ _ (setUp_takeReadResponse ..)
  | readyAssertion =>
    cases hexec
    exact setUp_setReady ..
  | readyDeassertion =>
    cases hexec
    exact setUp_setReady ..
  | combineAgeExpiry i =>
    cases hexec
    exact hexpiry (setUp_expireCombineAge ..)
  | claimTimeOut i l =>
    cases hexec
    exact hexpiry (setUp_expireClaim ..)
  | lingerTimerExpiry i l =>
    cases hexec
    exact hexpiry (setUp_expireLinger ..)
  | memoryTimeOut tag =>
    cases hexec
    exact hexpiry (setUp_expireMemory ..)
  | dBusReset =>
    cases hexec
    exact setUp_assertDrstn s
  | releaseOfDrstn =>
    cases hexec
    simp
  | releaseOfPorn csLow fullPulse =>
    rw [show exec (.releaseOfPorn csLow fullPulse) s = execReleaseOfPorn csLow fullPulse s from rfl, execReleaseOfPorn] at hexec
    split at hexec
    · split at hexec
      · cases hexec
        simp [releasePorn]
      · cases hexec
    · cases hexec
      rfl
  | _ => cases hframe

/-- Settles O54: a cycle moves the set-up by the commands that waited, a frame by its own row, and no other command but the power-on reset
moves it. -/
theorem setUpChangesOnlyAtItsOwnWrites : Obligations.SetUpChangesOnlyAtItsOwnWrites := by
  intro c s t hwf hexec hreset
  have hmoves : SetUpMoves (commandsTaken c s) s t := by
    by_cases hcycle : c = .tick ∨ c = .refclkCycle
    · have hsub := waitingCommands_sub_commandsTaken (s := s) hcycle
      exact ((takesUp_of_cycle hcycle hexec).setUp fun d hd => hwf d (hsub d hd)).mono hsub
    cases hf : frameOfInstr c with
    | none => exact .of_eq (setUp_of_event hf hcycle hreset hexec)
    | some f =>
      have hhead : c ∈ commandsTaken c s := List.mem_cons_self
      rw [exec_eq_endFrame hf] at hexec
      cases hexec
      exact (setUpMoves_endFrame hf (hwf c hhead) s).mono (List.cons_subset.mpr ⟨hhead, List.nil_subset _⟩)
  obtain ⟨hwindows, htimers, hmodes⟩ := hmoves
  exact ⟨hwindows, htimers, hmodes⟩

end Sys2Proof.Machine

/-! ## The device bus: form, state and hold checks, one count for each answer, the D-bus reset, and the queue of commands (R48, R101, R105
to R107, R109, R110, R115 to R117). -/

namespace Sys2Proof.Machine

/-! ### Malformed transactions -/

section
variable {s : State} {a : Address}

theorem malformed_eq_true {o : Offset} {n : Nat} (h : n = 0 ∨ 64 < o.toNat + n) : malformed o n = true := by
  simpa [malformed] using h

/-- R105, R107: the form is checked first. -/
theorem writeTransaction_of_malformed {data : List Byte} (i : StreamNo) (h : malformed (offsetOf a) data.length = true) :
    writeTransaction i a data s = answerAbort (offerError (.malformed i (lineOf a)) s) := by
  simp [writeTransaction, h]

/-- R106, R107: the form is checked first. -/
theorem readTransaction_of_malformed {n : Nat} (i : StreamNo) (h : malformed (offsetOf a) n = true) :
    readTransaction i a n s = answerAbort (offerError (.malformed i (lineOf a)) s) := by
  simp [readTransaction, h]

end

/-- Settles O8: the form check is the first, and its failure is an ABORT with the record. -/
theorem malformedTransactionsAbort : Obligations.MalformedTransactionsAbort := by
  intro s i a htakes
  refine ⟨fun data hform => ?_, fun n hform => ?_⟩
  · have hmalformed : malformed (offsetOf a) data.length = true := malformed_eq_true (hform.imp_left (by simp))
    rw [exec_write_of_takes htakes, writeTransaction_of_malformed i hmalformed, answerAbort_offerError]
  · rw [exec_read_of_takes htakes, readTransaction_of_malformed i (malformed_eq_true hform), answerAbort_offerError]

/-! ### The operating state and the hold -/

section
variable {s : State} {i : StreamNo} {a : Address} {w : WindowNo}

/-- R109. -/
theorem checkStateAndHold_of_not_online {work : State → State} (h : s.opState ≠ .online) :
    checkStateAndHold i work s = answerRetry .notOnline s :=
  if_pos h

/-- R109, R110: the hold is looked at in ONLINE alone. -/
theorem checkStateAndHold_of_held {work : State → State} (honline : s.opState = .online) (hhold : s.streams[i].hold = true) :
    checkStateAndHold i work s = answerRetry .held s := by
  rw [checkStateAndHold, if_neg (not_not.mpr honline), if_pos hhold]

/-- R105: past the form and decode checks a write is checked for state and hold, and posted. -/
theorem exec_write_of_decodes {data : List Byte} (htakes : takesTransactions s) (hdata : data ≠ [])
    (hend : (offsetOf a).toNat + data.length ≤ 64) (hdecodes : decodesTo s a w) (htreatment : s.windows[w].writeTreatment ≠ .refuse) :
    exec (.write i a data) s = .next (checkStateAndHold i
      (postWrite s.windows[w].writeTreatment i (lineOf a) (transferBytes (offsetOf a) data) w s.windows[w].notify)
      (s.setAnswers [])) := by
  have hform := malformed_eq_false (mt List.length_eq_zero_iff.mp hdata) hend
  rw [exec_write_of_takes htakes, writeTransaction, hform, State.setAnswers_windows, decodeWindow_eq_some hdecodes]
  simp only [Bool.false_eq_true, if_false, if_neg htreatment]

/-- R48, R106: a read that decodes and that no entry matches is checked for state and hold, and parked. -/
theorem exec_read_of_decodes_of_no_match {n : Nat} (h : readDecodes s a n w)
    (hnone : ∀ p ∈ s.prt, ¬(p.stream = i ∧ p.line = lineOf a ∧
      (p.readAhead = true ∨ (p.originOffset = offsetOf a ∧ p.originCount = n)))) :
    exec (.read i a n) s = .next (checkStateAndHold i
      (parkRequest s.windows[w].readTreatment i (lineOf a) (offsetOf a) n) (s.setAnswers [])) := by
  have hfind : (s.prt.find? fun p => p.matchesRead i (lineOf a) (offsetOf a) n) = none :=
    List.find?_eq_none.mpr fun p hp hmatch => hnone p hp ((p.matchesRead_iff ..).mp hmatch)
  rw [exec_read_of_decodes i h, hfind]
  rfl

end

/-- Settles O10: past decode, and for a read past the match, the transaction is at the state check, which comes before the hold check. -/
theorem stateCheckComesBeforeHoldCheck : Obligations.StateCheckComesBeforeHoldCheck := by
  intro s i a data n w htakes hdecodes
  refine ⟨fun hdata hend htreatment => ?_, fun hn hend htreatment hnone => ?_⟩
  · rw [exec_write_of_decodes htakes hdata hend hdecodes htreatment]
    exact ⟨fun hstate => congrArg _ (checkStateAndHold_of_not_online (s := s.setAnswers []) hstate),
      fun honline hhold => congrArg _ (checkStateAndHold_of_held (s := s.setAnswers []) honline hhold)⟩
  · rw [exec_read_of_decodes_of_no_match ⟨htakes, hn, hend, hdecodes, htreatment⟩ hnone]
    exact ⟨fun hstate => congrArg _ (checkStateAndHold_of_not_online (s := s.setAnswers []) hstate),
      fun honline hhold => congrArg _ (checkStateAndHold_of_held (s := s.setAnswers []) honline hhold)⟩

/-! ### The answer counters -/

/-- R115: the counters of which every answer advances one. -/
def answerCounters : List Counter :=
  [.writesAccepted, .readsDelivered, .aborts, .retriesNotOnline, .retriesHeld, .retriesQueueFull, .retriesParked, .retriesNotReady,
    .retriesLineBusy, .retriesTableFull]

/-- The values of the answer counters. -/
def State.answerCounts (s : State) : List Nat :=
  answerCounters.map s.counter

/-- One answer was counted from the first state to the second. -/
def CountsOneAnswer (u v : State) : Prop :=
  ∃ c ∈ answerCounters, v.answerCounts = (bump c u).answerCounts

section
variable {u v : State}

theorem answerCounts_eq_iff : v.answerCounts = u.answerCounts ↔ ∀ d ∈ answerCounters, v.counter d = u.counter d :=
  List.map_inj_left

theorem answerCounts_bump_congr (h : v.answerCounts = u.answerCounts) (c : Counter) :
    (bump c v).answerCounts = (bump c u).answerCounts := by
  refine answerCounts_eq_iff.mpr fun d hd => ?_
  rw [bump_counter, bump_counter, answerCounts_eq_iff.mp h d hd]

theorem answerCounts_bump_of_notMem {c : Counter} (h : c ∉ answerCounters) : (bump c u).answerCounts = u.answerCounts := by
  refine answerCounts_eq_iff.mpr fun d hd => ?_
  have hne : d ≠ c := fun hdc => h (hdc ▸ hd)
  rw [bump_counter, if_neg hne]

namespace CountsOneAnswer

/-- R144: one counter goes up, unless it has saturated, and the others of the ten stay. -/
theorem exists_counter (h : CountsOneAnswer u v) :
    ∃ c ∈ answerCounters, v.counter c = saturatingSucc Config.counterMax (u.counter c) ∧
      ∀ d ∈ answerCounters, d ≠ c → v.counter d = u.counter d := by
  obtain ⟨c, hc, hcounts⟩ := h
  have hcounter := answerCounts_eq_iff.mp hcounts
  refine ⟨c, hc, ?_, fun d hd hdc => ?_⟩
  · rw [hcounter c hc, bump_counter, if_pos rfl]
  · rw [hcounter d hd, bump_counter, if_neg hdc]

theorem of_bump {c : Counter} (hc : c ∈ answerCounters) (h : v.answerCounts = u.answerCounts) : CountsOneAnswer u (bump c v) :=
  ⟨c, hc, answerCounts_bump_congr h c⟩

theorem accept (h : v.answerCounts = u.answerCounts) : CountsOneAnswer u (answerAccept v) :=
  of_bump (v := giveAnswer .accept v) (by decide) h

theorem retry (r : RetryReason) (h : v.answerCounts = u.answerCounts) : CountsOneAnswer u (answerRetry r v) := by
  have hr : r.counter ∈ answerCounters := by cases r <;> decide
  exact of_bump (v := giveAnswer (.retry r) v) hr h

theorem data (bytes : List Byte) (h : v.answerCounts = u.answerCounts) : CountsOneAnswer u (answerData bytes v) :=
  of_bump (v := giveAnswer (.data bytes) v) (by decide) h

theorem abort (h : v.answerCounts = u.answerCounts) : CountsOneAnswer u (answerAbort v) :=
  of_bump (v := giveAnswer .abort v) (by decide) h

end CountsOneAnswer

/-! ### What a transaction does beside its answer counts none -/

theorem answerCounts_offerError (r : ErrorRecord) : (offerError r u).answerCounts = u.answerCounts := by
  rw [offerError_frame]
  rfl

theorem answerCounts_freePrt (id : Nat) : (freePrt id u).answerCounts = u.answerCounts := by
  rw [freePrt_frame]
  rfl

theorem answerCounts_sealWhere (cause : PqEntry → Bool) : (sealWhere cause u).answerCounts = u.answerCounts := rfl

theorem answerCounts_writeMeetsPrt (l : Line) : (writeMeetsPrt l u).answerCounts = u.answerCounts := rfl

theorem answerCounts_sealsBeforeAppend (i : StreamNo) (l : Line) : (sealsBeforeAppend i l u).answerCounts = u.answerCounts := rfl

/-- R36: the judging counts in FLAGS_VOIDED alone. -/
theorem answerCounts_voidPass : (voidPass u).answerCounts = u.answerCounts := by
  refine answerCounts_eq_iff.mpr fun d hd => ?_
  have hne : d ≠ .flagsVoided := by
    rintro rfl
    exact absurd hd (by decide)
  exact noteVoided_foldl_counter_ne _ _ hne

/-- R7: a merge counts in WRITES_MERGED alone. -/
theorem answerCounts_mergeInto (e : PqEntry) (bytes : ByteSet) : (mergeInto e bytes u).answerCounts = u.answerCounts := by
  have hmerged (x : State) : (bump .writesMerged x).answerCounts = x.answerCounts := answerCounts_bump_of_notMem (by decide)
  unfold mergeInto
  dsimp only
  split
  · exact hmerged _
  · exact hmerged _

theorem answerCounts_appendFor (tr : WriteTreatment) (i : StreamNo) (l : Line) (bytes : ByteSet) (w : WindowNo) (notify : Bool) :
    (appendFor tr i l bytes w notify u).answerCounts = u.answerCounts := by
  cases tr with
  | merge =>
    dsimp only [appendFor, appendMerge]
    split <;> rfl
  | post => rfl
  | release => rfl
  | refuse => rfl

/-! ### Every transaction counts one answer -/

theorem countsOneAnswer_postNewEntry (tr : WriteTreatment) (i : StreamNo) (l : Line) (bytes : ByteSet) (w : WindowNo)
    (notify : Bool) : CountsOneAnswer u (postNewEntry tr i l bytes w notify u) := by
  unfold postNewEntry
  split
  · refine .accept ?_
    rw [answerCounts_voidPass, answerCounts_writeMeetsPrt, answerCounts_appendFor, answerCounts_sealsBeforeAppend]
  · exact .retry _ rfl

theorem countsOneAnswer_postWrite (tr : WriteTreatment) (i : StreamNo) (l : Line) (bytes : ByteSet) (w : WindowNo)
    (notify : Bool) : CountsOneAnswer u (postWrite tr i l bytes w notify u) := by
  unfold postWrite
  split
  · refine .accept ?_
    rw [answerCounts_writeMeetsPrt, answerCounts_mergeInto]
  · exact countsOneAnswer_postNewEntry ..

theorem countsOneAnswer_checkStateAndHold (i : StreamNo) {work : State → State} (h : CountsOneAnswer u (work u)) :
    CountsOneAnswer u (checkStateAndHold i work u) := by
  unfold checkStateAndHold
  split
  · exact .retry _ rfl
  · split
    · exact .retry _ rfl
    · exact h

theorem countsOneAnswer_writeTransaction (i : StreamNo) (a : Address) (data : List Byte) :
    CountsOneAnswer u (writeTransaction i a data u) := by
  unfold writeTransaction
  split
  · exact .abort (answerCounts_offerError _)
  · split
    · exact .abort (answerCounts_offerError _)
    · split
      · exact .abort (answerCounts_offerError _)
      · exact countsOneAnswer_checkStateAndHold i (countsOneAnswer_postWrite ..)

theorem countsOneAnswer_claimParked (p : PrtEntry) (line : LineData) (o : Offset) (n : Nat) :
    CountsOneAnswer u (claimParked p line o n u) := by
  refine .data _ ?_
  split
  · rfl
  · exact answerCounts_freePrt _

/-- R52: a linger hit is counted beside the answer. -/
theorem countsOneAnswer_lingerHit (bytes : List Byte) : CountsOneAnswer u (bump .lingerHits (answerData bytes u)) := by
  obtain ⟨c, hc, hcounts⟩ := CountsOneAnswer.data (u := u) bytes rfl
  exact ⟨c, hc, (answerCounts_bump_of_notMem (by decide)).trans hcounts⟩

theorem countsOneAnswer_serveMatch (p : PrtEntry) (o : Offset) (n : Nat) : CountsOneAnswer u (serveMatch p o n u) := by
  unfold serveMatch
  split
  · exact .retry _ rfl
  · exact .retry _ rfl
  · exact .abort (answerCounts_freePrt _)
  · exact countsOneAnswer_claimParked ..
  · exact countsOneAnswer_lingerHit _

theorem countsOneAnswer_parkRead (rt : ReadTreatment) (i : StreamNo) (l : Line) (o : Offset) (n : Nat)
    (h : v.answerCounts = u.answerCounts) : CountsOneAnswer u (parkRead rt i l o n v) := by
  refine .retry _ ?_
  rw [answerCounts_sealWhere]
  exact h

theorem countsOneAnswer_parkRequest (rt : ReadTreatment) (i : StreamNo) (l : Line) (o : Offset) (n : Nat) :
    CountsOneAnswer u (parkRequest rt i l o n u) := by
  unfold parkRequest
  split
  · exact .retry _ rfl
  · split
    · exact countsOneAnswer_parkRead rt i l o n rfl
    · split
      · exact countsOneAnswer_parkRead rt i l o n (answerCounts_freePrt _)
      · exact .retry _ rfl

theorem countsOneAnswer_readTransaction (i : StreamNo) (a : Address) (n : Nat) :
    CountsOneAnswer u (readTransaction i a n u) := by
  unfold readTransaction
  split
  · exact .abort (answerCounts_offerError _)
  · split
    · exact .abort (answerCounts_offerError _)
    · split
      · exact .abort (answerCounts_offerError _)
      · split
        · exact countsOneAnswer_serveMatch ..
        · exact countsOneAnswer_checkStateAndHold i (countsOneAnswer_parkRequest ..)

end

/-- Settles O11: a transaction that is taken ends in one answer, and nothing else that it does moves the ten counters. -/
theorem eachTransactionCountsOnce : Obligations.EachTransactionCountsOnce := by
  intro s t i a data n htakes hexec ten
  have hcounts : CountsOneAnswer (s.setAnswers []) t := by
    rw [exec_write_of_takes htakes, exec_read_of_takes htakes] at hexec
    rcases hexec with hwrite | hread
    · cases hwrite
      exact countsOneAnswer_writeTransaction i a data
    · cases hread
      exact countsOneAnswer_readTransaction i a n
  exact hcounts.exists_counter

/-! ### The D-bus reset -/

section
variable {s : State}

/-- R163. -/
theorem assertDrstn_of_por (h : s.por = true) : assertDrstn s = s.setDrstn true :=
  if_pos h

/-- R116: the event is the change of the line. -/
theorem assertDrstn_of_asserted (hpor : s.por = false) (hdrstn : s.drstn = true) : assertDrstn s = s := by
  simp [assertDrstn, hpor, hdrstn]

/-- R87: the BUSY tags of class read become orphan, as the statements spell it. -/
theorem Tag.orphaned_busy (o : Owner) (timer : Timer) :
    Tag.orphaned (.busy o timer) = if o.linkClass = .read then .busy .orphan timer else .busy o timer := by
  cases o <;> rfl

/-- R117: the transactions that wait are dropped, as the statements spell it. -/
theorem dropHeldTransactions_eq (s : State) :
    dropHeldTransactions s = s.setHeld (s.held.filter fun h => h.port ≠ some .deviceBus) :=
  congrArg s.setHeld (List.filter_congr fun h _ => Bool.eq_iff_iff.mpr (by simp))

/-- R24, R65, R87, R116, R123: the D-bus reset field by field. -/
theorem dBusResetEvent_eq (s : State) :
    dBusResetEvent s =
      (((((((s.setBusReset true).setPq (s.pq.map PqEntry.toSealed)).setPrt []).setStreams
        (Vector.ofFn fun i => { s.streams[i] with openEntry := none })).setTags
        (Vector.ofFn fun t => s.tags[t].orphaned)).setOpState (opStateAfterFree s [])).setHeld
        (s.held.filter fun h => h.port ≠ some .deviceBus)) := by
  have hstate : opStateAfterFree (s.setPq (s.pq.map PqEntry.toSealed)) [] = opStateAfterFree s [] := by
    simp [opStateAfterFree]
  rw [← hstate, dBusResetEvent, checkDrain_eq, dropHeldTransactions_eq, sealAll_eq]
  rfl

/-- R116: the assertion of a released line. -/
theorem assertDrstn_of_released (hpor : s.por = false) (hdrstn : s.drstn = false) :
    assertDrstn s =
      ((((((((s.setDrstn true).setBusReset true).setPq (s.pq.map PqEntry.toSealed)).setPrt []).setStreams
        (Vector.ofFn fun i => { s.streams[i] with openEntry := none })).setTags
        (Vector.ofFn fun t => s.tags[t].orphaned)).setOpState (opStateAfterFree s [])).setHeld
        (s.held.filter fun h => h.port ≠ some .deviceBus)) := by
  have hevent : assertDrstn s = dBusResetEvent (s.setDrstn true) := by
    simp [assertDrstn, hpor, hdrstn]
  exact hevent.trans (dBusResetEvent_eq (s.setDrstn true))

/-- R117: under the bus reset condition a transaction is not taken. -/
theorem arriveAtDeviceBus_of_busReset (h : s.busReset = true) (c : Instr) (take : State → State) :
    arriveAtDeviceBus c take s = s := by
  simp [arriveAtDeviceBus, h]

end

/-- Settles O37: the assertion of DRSTn by PORn and by the line's level before it, and the arrival of a transaction under the condition. -/
theorem dBusResetSealsFreesAndOrphans : Obligations.DBusResetSealsFreesAndOrphans := by
  intro s
  refine ⟨fun hpor hdrstn => ?_, fun hpor hdrstn => congrArg _ (assertDrstn_of_asserted hpor hdrstn),
    fun hpor => congrArg _ (assertDrstn_of_por hpor), fun hreset i a data n => ?_⟩
  · have hseal : PqEntry.toSealed = fun e => if e.isOpen then { e with state := .sealed } else e := funext PqEntry.toSealed_eq
    have hexec : exec .dBusReset s = .next (assertDrstn s) := rfl
    rw [hexec, assertDrstn_of_released hpor hdrstn, hseal]
    congr 5
    funext t
    cases s.tags[t] with
    | busy o timer => exact Tag.orphaned_busy o timer
    | free => rfl
    | lapsed => rfl
  · have hstays (c : Instr) (take : State → State) : arriveAtDeviceBus c take (s.setAnswers []) = s.setAnswers [] :=
      arriveAtDeviceBus_of_busReset (s := s.setAnswers []) hreset c take
    exact ⟨congrArg _ (hstays ..), congrArg _ (hstays ..)⟩

/-! ### The queue of commands -/

theorem step_of_pending_cons {s : State} {c : Instr} {rest : List Instr} (h : s.pending = c :: rest) :
    step s = exec c (s.setPending rest) := by
  rw [step, h]

theorem step_of_pending_nil {s : State} (h : s.pending = []) : step s = .next s := by
  rw [step, h]

/-- Settles O1: the two cases of the queue. -/
theorem stepTakesTheFrontCommand : Obligations.StepTakesTheFrontCommand :=
  fun _ => ⟨fun _ _ => step_of_pending_cons, step_of_pending_nil⟩

end Sys2Proof.Machine

/-! ## START, STOP, CLEAR and the commands that carry a stream set (R17, R39, R121, R122, R126, R128, R129). -/

namespace Sys2Proof.Machine

/-- R149, R150: on a ready port a well-framed command leaves what its row's action leaves, with the action's bare reply. -/
theorem exec_commandFrame {s t : State} {c : Instr} {k : Command} {hi lo : Byte} {data : List Byte} {st : Status}
    (ready : portReady s) (hlen : data.length ≤ 12) (hfixed : ∀ n ∈ fixedDataLength k, n = data.length)
    (hf : frameOfInstr c = some (commandFrame k (framed hi lo data)))
    (haction : rowAction c ⟨k, beNat [hi, lo], data⟩ (afterCsRise s s c) = (afterCsRise s t c, bareReply st)) :
    exec c s = .next (afterFrame s t c st []) := by
  rw [exec_of_parseFrame ready hf (parseFrame_commandFrame k hi lo data hlen hfixed), haction]
  rfl

/-! ### The operating state -/

section
variable {s : State}

/-- R121. -/
theorem startAction_of_offline (r : FrameRequest) (h : s.opState = .offline) :
    startAction r s = (s.setOpState .online, bareReply .ok) := by
  simp [startAction, h]

/-- R121. -/
theorem startAction_of_not_offline (r : FrameRequest) (h : s.opState ≠ .offline) :
    startAction r s = (s, bareReply .refused) := by
  cases hop : s.opState with
  | offline => exact absurd hop h
  | online => simp [startAction, hop]
  | draining => simp [startAction, hop]

/-- R17, R64, R122, R123: the seals, the freed entries and the drain of a STOP, field by field. -/
theorem stopAction_of_online (r : FrameRequest) (h : s.opState = .online) :
    let kept := s.prt.filter fun p => !p.isLingering
    stopAction r s =
      ((((s.setPq (s.pq.map fun e => if e.isOpen then { e with state := .sealed } else e)).setPrt kept).setStreams
        (Vector.ofFn fun i => { s.streams[i] with openEntry := none })).setOpState
        (if s.pq = [] ∧ kept = [] then .offline else .draining), bareReply .ok) := by
  intro kept
  have hseal : (fun e : PqEntry => if e.isOpen then { e with state := .sealed } else e) = PqEntry.toSealed :=
    funext fun e => e.toSealed_eq.symm
  have haction : stopAction r s =
      (checkDrain ((((s.setPq (s.pq.map PqEntry.toSealed)).setPrt kept).setStreams
        (Vector.ofFn fun i => { s.streams[i] with openEntry := none })).setOpState .draining), bareReply .ok) := by
    rw [stopAction, h]
    rfl
  have hdrain :
      (if OpState.draining = .draining ∧ s.pq.map PqEntry.toSealed = [] ∧ kept = [] then OpState.offline else .draining) =
        if s.pq = [] ∧ kept = [] then .offline else .draining := by simp
  rw [haction, checkDrain_eq, hseal, ← hdrain]
  rfl

/-- R122. -/
theorem stopAction_of_not_online (r : FrameRequest) (h : s.opState ≠ .online) : stopAction r s = (s, bareReply .refused) := by
  cases hop : s.opState with
  | online => exact absurd hop h
  | offline => simp [stopAction, hop]
  | draining => simp [stopAction, hop]

/-- R126: CLEAR field by field. -/
theorem clearAll_eq (s : State) :
    clearAll s = (((((s.setNq []).setNoticesLost 0).setEl []).setErrorsLost 0).setCounters (Vector.replicate 19 0)).setStreams
      (Vector.ofFn fun i => { s.streams[i] with faultMark := false, hold := false }) := rfl

/-- R126. -/
theorem clearAction_of_not_offline (r : FrameRequest) (h : s.opState ≠ .offline) :
    clearAction r s = (s, bareReply .refused) := by
  cases hop : s.opState with
  | offline => exact absurd hop h
  | online => simp [clearAction, hop]
  | draining => simp [clearAction, hop]

end

/-- Settles O47: on a ready port the commands are `startAction` and `stopAction`, each by the operating state. -/
theorem startAndStopMoveTheOperatingState : Obligations.StartAndStopMoveTheOperatingState := by
  intro s hi lo data ready hlen c d kept
  let r (k : Command) : FrameRequest := ⟨k, beNat [hi, lo], data⟩
  have hstart {t : State} {st : Status} :=
    exec_commandFrame (c := c) (t := t) (st := st) ready hlen (by simp [fixedDataLength]) rfl
  have hstop {t : State} {st : Status} :=
    exec_commandFrame (c := d) (t := t) (st := st) ready hlen (by simp [fixedDataLength]) rfl
  exact ⟨fun h => hstart (startAction_of_offline (s := afterCsRise s s c) (r .start) h),
    fun h => hstart (startAction_of_not_offline (s := afterCsRise s s c) (r .start) h),
    fun h => hstop (stopAction_of_online (s := afterCsRise s s d) (r .stop) h),
    fun h => hstop (stopAction_of_not_online (s := afterCsRise s s d) (r .stop) h)⟩

/-- Settles O48: on a ready port the command is `clearAction`, by the operating state. -/
theorem clearEmptiesTheLogsInOffline : Obligations.ClearEmptiesTheLogsInOffline := by
  intro s hi lo data ready hlen c
  let r : FrameRequest := ⟨.clear, beNat [hi, lo], data⟩
  have hclear {t : State} {st : Status} :=
    exec_commandFrame (c := c) (t := t) (st := st) ready hlen (by simp [fixedDataLength]) rfl
  refine ⟨fun h => ?_, fun h => hclear (clearAction_of_not_offline (s := afterCsRise s s c) r h)⟩
  rw [exec_clear_of_offline ready h hlen, clearAll_eq]
  rfl

/-! ### The commands that carry a stream set -/

/-- R17: the open-entry field of a named stream refers to the entry. -/
def openOfNamed (s : State) (named : StreamNo → Bool) (e : PqEntry) : Bool :=
  named e.stream && s.streams[e.stream].openEntry == some e.id

theorem openOfNamed_iff (s : State) (named : StreamNo → Bool) (e : PqEntry) :
    openOfNamed s named e = true ↔ named e.stream = true ∧ s.streams[e.stream].openEntry = some e.id := by
  rw [openOfNamed, Bool.and_eq_true, beq_iff_eq]

/-- R17, R128: a HOLD is a seal of the entries that the named streams' open-entry fields refer to, and the holds. -/
theorem holdAction_eq_sealWhere (r : FrameRequest) (s : State) :
    holdAction r s =
      (mapStreams (fun i rec => if inStreamSet r.data i then { rec with hold := true } else rec)
        (sealWhere (openOfNamed s (inStreamSet r.data)) s), bareReply .ok) := rfl

section
variable {s : State} (hopen : OpenEntriesAgree s) (named : StreamNo → Bool)
include hopen

/-- R5: the field of a named stream refers to its OPEN entry. -/
theorem openOfNamed_of_open {e : PqEntry} (he : e ∈ s.pq) (ho : e.isOpen = true) : openOfNamed s named e = named e.stream := by
  obtain ⟨-, hfield⟩ := hopen
  obtain ⟨hsome, -⟩ := hfield e he ho
  rw [openOfNamed, hsome, beq_self_eq_true, Bool.and_true]

/-- R17: the OPEN entries of the named streams are sealed, and no other entry changes. -/
theorem sealNamed_pq :
    (sealWhere (openOfNamed s named) s).pq =
      s.pq.map fun e => if named e.stream && e.isOpen then { e with state := .sealed } else e := by
  refine (sealWhere_pq _ s).trans (List.map_congr_left fun e he => ?_)
  rw [PqEntry.toSealed_eq]
  cases ho : e.isOpen with
  | true => simp [openOfNamed_of_open hopen named he ho]
  | false => simp

/-- R5: the streams for which a seal by the open-entry fields finds an entry. -/
theorem any_openOfNamed_iff (i : StreamNo) :
    (s.pq.any fun e => e.isOpen && openOfNamed s named e && e.stream == i) = true ↔
      named i = true ∧ s.streams[i].openEntry ≠ none := by
  simp only [List.any_eq_true, Bool.and_eq_true, beq_iff_eq]
  constructor
  · rintro ⟨e, he, ⟨ho, hnamed⟩, rfl⟩
    obtain ⟨hstream, hsome⟩ := (openOfNamed_iff s named e).mp hnamed
    exact ⟨hstream, Option.ne_none_iff_exists'.mpr ⟨_, hsome⟩⟩
  · rintro ⟨hnamed, hne⟩
    obtain ⟨id, hid⟩ := Option.ne_none_iff_exists'.mp hne
    obtain ⟨e, he, -, rfl, ho⟩ := hopen.1 i id hid
    exact ⟨e, he, ⟨ho, (openOfNamed_of_open hopen named he ho).trans hnamed⟩, rfl⟩

/-- R17: the open-entry fields of the named streams become none, and no other record changes. -/
theorem sealNamed_stream (i : StreamNo) :
    (sealWhere (openOfNamed s named) s).streams[i] =
      if named i then { s.streams[i] with openEntry := none } else s.streams[i] := by
  rw [sealWhere_stream, if_congr (any_openOfNamed_iff hopen named i) rfl rfl, ite_and]
  by_cases hnone : s.streams[i].openEntry = none
  · have hsame : { s.streams[i] with openEntry := none } = s.streams[i] := by rw [← hnone]
    simp only [hsame, ite_self]
  · rw [if_pos hnone]

/-- R17, R128: the seals and the holds of a HOLD, field by field. -/
theorem holdAction_eq (r : FrameRequest) :
    holdAction r s =
      ((s.setPq (s.pq.map fun e => if inStreamSet r.data e.stream && e.isOpen then { e with state := .sealed } else e)).setStreams
        (Vector.ofFn fun i =>
          if inStreamSet r.data i then { s.streams[i] with openEntry := none, hold := true } else s.streams[i]),
        bareReply .ok) := by
  have hrecord (i : StreamNo) :
      (if inStreamSet r.data i then { (sealWhere (openOfNamed s (inStreamSet r.data)) s).streams[i] with hold := true }
        else (sealWhere (openOfNamed s (inStreamSet r.data)) s).streams[i]) =
      if inStreamSet r.data i then { s.streams[i] with openEntry := none, hold := true } else s.streams[i] := by
    rw [sealNamed_stream hopen]
    split <;> rfl
  rw [holdAction_eq_sealWhere, mapStreams, funext hrecord, sealWhere_frame, sealNamed_pq hopen]
  rfl

end

/-- Settles O49: on a ready port the commands are `holdAction`, `unholdAction` and `clearFaultAction`. -/
theorem streamSetCommandsActOnTheNamedStreams : Obligations.StreamSetCommandsActOnTheNamedStreams := by
  intro s hi lo set ready h u f
  have hexec {c : Instr} {k : Command} {t : State} {st : Status} (hfixed : fixedDataLength k = some 1) :=
    exec_commandFrame (c := c) (k := k) (hi := hi) (lo := lo) (data := [set]) (t := t) (st := st) ready
      (by simp) (by simp [hfixed])
  exact ⟨fun hinv => hexec rfl rfl (holdAction_eq (s := afterCsRise s s h) hinv.openAgree _), hexec rfl rfl rfl,
    hexec rfl rfl rfl⟩

end Sys2Proof.Machine

/-! ## The counters and the TAKE commands (R136, R140, R141, R144, R158). -/

namespace Sys2Proof.Machine

/-! ### One counter -/

/-- Settles O3: the counter is the one place of table 8-2 that `bump` writes. -/
theorem countersGoUpByOneAndSaturate : Obligations.CountersGoUpByOneAndSaturate := by
  intro c s
  have hself : (bump c s).counter c = saturatingSucc Config.counterMax (s.counter c) := by rw [bump_counter, if_pos rfl]
  refine ⟨fun hlt => ?_, fun hmax => ?_, fun d hd => ?_, rfl⟩
  · exact hself.trans (if_pos hlt)
  · rw [hself, hmax]
    rfl
  · rw [bump_counter, if_neg hd]

/-! ### The bytes of a report -/

/-- R158: the five bytes of a line, most significant first. -/
theorem beBytes_five (n : Nat) :
    beBytes 5 n = [BitVec.ofNat 8 (n / 2 ^ 32), BitVec.ofNat 8 (n / 2 ^ 24), BitVec.ofNat 8 (n / 2 ^ 16),
      BitVec.ofNat 8 (n / 2 ^ 8), BitVec.ofNat 8 n] := by
  simp [beBytes, Nat.div_div_eq_div_mul]

/-! ### The commands -/

/-- R149, R150: on a ready port a well-framed command leaves what its row's action leaves, with the action's reply. -/
theorem exec_commandFrame_reply {s t : State} {c : Instr} {k : Command} {hi lo : Byte} {data out : List Byte} {st : Status}
    (ready : portReady s) (hlen : data.length ≤ 12) (hfixed : ∀ n ∈ fixedDataLength k, n = data.length)
    (hf : frameOfInstr c = some (commandFrame k (framed hi lo data)))
    (haction : rowAction c ⟨k, beNat [hi, lo], data⟩ (afterCsRise s s c) = (afterCsRise s t c, ⟨st, out⟩)) :
    exec c s = .next (afterFrame s t c st out) := by
  rw [exec_of_parseFrame ready hf (parseFrame_commandFrame k hi lo data hlen hfixed), haction]
  rfl

section
variable {s : State}

/-- R136. -/
theorem takeNoticeAction_of_cons (r : FrameRequest) {v : Notice} {rest : List Notice} (h : s.nq = v :: rest) :
    takeNoticeAction r s = (s.setNq rest, ⟨.ok, noticeBytes v⟩) := by
  rw [takeNoticeAction, h]

/-- R136. -/
theorem takeNoticeAction_of_nil (r : FrameRequest) (h : s.nq = []) : takeNoticeAction r s = (s, bareReply .empty) := by
  rw [takeNoticeAction, h]

/-- R140, R158. -/
theorem takeErrorAction_of_cons {q : FrameRequest} (hitem : q.item = 0) {r : ErrorRecord} {rest : List ErrorRecord}
    (h : s.el = r :: rest) : takeErrorAction q s = (s.setEl rest, ⟨.ok, errorBytes r⟩) := by
  rw [takeErrorAction, if_pos hitem, takeRecord, h]

/-- R140, R158. -/
theorem takeErrorAction_of_nil {q : FrameRequest} (hitem : q.item = 0) (h : s.el = []) :
    takeErrorAction q s = (s, bareReply .empty) := by
  rw [takeErrorAction, if_pos hitem, takeRecord, h]

/-- R158. -/
theorem takeErrorAction_of_no_form {r : FrameRequest} (h0 : r.item ≠ 0) (h1 : r.item ≠ 1) :
    takeErrorAction r s = (s, bareReply .badItem) := by
  rw [takeErrorAction, if_neg h0, if_neg h1]

end

/-- R158: an item field of two bytes that is neither 0000 Hex nor 0001 Hex. -/
theorem beNat_pair_ne {hi lo : Byte} (h : hi ≠ 0 ∨ (lo ≠ 0 ∧ lo ≠ 1)) : beNat [hi, lo] ≠ 0 ∧ beNat [hi, lo] ≠ 1 := by
  have hpair : beNat [hi, lo] = hi.toNat * 256 + lo.toNat := by simp [beNat]
  rw [hpair]
  bv_omega

/-- Settles O50: on a ready port the commands are `takeNoticeAction`, `takeRecord` and `takeLostCount`, by the contents of the queues, and
each kind of record has the bytes of its fields. -/
theorem takesReturnTheOldestReport : Obligations.TakesReturnTheOldestReport := by
  intro s hi lo data ready hlen n e l x byte five none5
  let q : FrameRequest := ⟨.takeNotice, beNat [hi, lo], data⟩
  have hexec {c : Instr} {k : Command} {hi lo : Byte} {t : State} {st : Status} {out : List Byte} (hk : fixedDataLength k = none) :=
    exec_commandFrame_reply (c := c) (k := k) (hi := hi) (lo := lo) (data := data) (t := t) (st := st) (out := out) ready hlen
      (by simp [hk])
  refine ⟨fun v rest h => ?_, fun h => ?_, fun r rest h => ?_, fun h => ?_, ?_, fun h => ?_⟩
  · refine (hexec (c := n) (t := s.setNq rest) rfl rfl (takeNoticeAction_of_cons (s := afterCsRise s s n) q h)).trans ?_
    obtain ⟨w, i, a, o⟩ := v
    simp only [noticeBytes, beBytes_five]
    cases o <;> rfl
  · exact hexec (c := n) rfl rfl (takeNoticeAction_of_nil (s := afterCsRise s s n) q h)
  · refine (hexec (c := e) (k := .takeError) (t := s.setEl rest) rfl rfl
      (takeErrorAction_of_cons (s := afterCsRise s s e) rfl h)).trans ?_
    cases r <;> simp only [errorBytes, errorLine, beBytes_five] <;> rfl
  · exact hexec (c := e) (k := .takeError) rfl rfl (takeErrorAction_of_nil (s := afterCsRise s s e) rfl h)
  · exact hexec (c := l) (k := .takeError) (hi := 0) (lo := 1) rfl rfl rfl
  · obtain ⟨h0, h1⟩ := beNat_pair_ne h
    exact hexec (c := x) (k := .takeError) rfl rfl (takeErrorAction_of_no_form (s := afterCsRise s s x) h0 h1)

end Sys2Proof.Machine

/-! ## The account of R145: its statement with what is not yet counted, and what the shared operations do to it. -/

namespace Sys2Proof.Machine

/-! ### The statement -/

/-- R145 in the course of an operation: `joined` entries have been appended whose WRITE is not yet counted in WRITES_ACCEPTED, and `left`
entries have left the PQ and are not yet counted by their outcome. -/
def EntriesBalance (joined left : Nat) (s : State) : Prop :=
  s.counter .writesAccepted < 0xFFFFFFFF → s.counter .writesMerged < 0xFFFFFFFF → s.counter .entriesRetired < 0xFFFFFFFF →
    s.counter .entriesFailed < 0xFFFFFFFF → s.counter .flagsVoided < 0xFFFFFFFF →
    s.counter .writesAccepted + joined = s.counter .writesMerged + s.counter .entriesRetired + s.counter .entriesFailed +
      s.counter .flagsVoided + left + s.pq.length

theorem entriesBalance_zero_iff (s : State) : EntriesBalance 0 0 s ↔ EntriesAccounted s :=
  Iff.rfl

/-- The account with what is not yet counted. CLEAR zeroes the counters in OFFLINE, where the PQ is empty (R119). -/
structure CounterAccount (joined left : Nat) (s : State) : Prop where
  balance : EntriesBalance joined left s
  agree : CountersAgree s
  offline : s.opState = .offline → s.pq = []

/-- The counters of what an accepted write becomes: merged at once, or an entry that leaves by one of three outcomes. -/
def outcomeCounters : List Counter :=
  [.writesMerged, .entriesRetired, .entriesFailed, .flagsVoided]

/-- The counters that the account names. -/
def accountCounters : List Counter :=
  .writesAccepted :: outcomeCounters ++ [.faultMarks, .flagsReleased, .lingerHits, .readsDelivered]

/-- From `u` to `v` as many entries stand in the PQ, the counters of the account stand, and OFFLINE is entered only with the PQ empty. -/
structure AccountQuiet (u v : State) : Prop where
  length : v.pq.length = u.pq.length
  counter : ∀ c ∈ accountCounters, v.counter c = u.counter c
  offline : v.opState = .offline → u.opState = .offline ∨ v.pq = []

namespace AccountQuiet

variable {u v w : State}

theorem trans (h : AccountQuiet u v) (h' : AccountQuiet v w) : AccountQuiet u w where
  length := h'.length.trans h.length
  counter c hc := (h'.counter c hc).trans (h.counter c hc)
  offline hw := by
    rcases h'.offline hw with hv | hpq
    · refine (h.offline hv).imp_right fun hpq => List.length_eq_zero_iff.mp ?_
      rw [h'.length, hpq, List.length_nil]
    · exact .inr hpq

theorem of_eq (hlength : v.pq.length = u.pq.length) (hcounters : v.counters = u.counters) (hop : v.opState = u.opState) :
    AccountQuiet u v where
  length := hlength
  counter c _ := by rw [State.counter, hcounters, State.counter]
  offline hv := .inl (hop ▸ hv)

theorem refl (u : State) : AccountQuiet u u :=
  of_eq rfl rfl rfl

/-- Entries changed, none joining or leaving. -/
theorem setPq_map (u : State) (f : PqEntry → PqEntry) : AccountQuiet u (u.setPq (u.pq.map f)) :=
  of_eq (List.length_map f) rfl rfl

theorem setPrt (u : State) (x : List PrtEntry) : AccountQuiet u (u.setPrt x) :=
  of_eq rfl rfl rfl

theorem setTags (u : State) (x : Vector Tag 16) : AccountQuiet u (u.setTags x) :=
  of_eq rfl rfl rfl

theorem setTbCount (u : State) (x : Fin 50) : AccountQuiet u (u.setTbCount x) :=
  of_eq rfl rfl rfl

theorem setRefclkStopped (u : State) (x : Bool) : AccountQuiet u (u.setRefclkStopped x) :=
  of_eq rfl rfl rfl

end AccountQuiet

/-! ### Operations that leave the account -/

section
variable (u : State)

theorem accountQuiet_bump {c : Counter} (h : c ∉ accountCounters) : AccountQuiet u (bump c u) where
  length := rfl
  counter d hd := by
    have hne : d ≠ c := fun hdc => h (hdc ▸ hd)
    rw [bump_counter, if_neg hne]
  offline := .inl

theorem accountQuiet_offerError (r : ErrorRecord) : AccountQuiet u (offerError r u) := by
  rw [offerError_frame]
  exact .of_eq rfl rfl rfl

theorem accountQuiet_noticeOfLeaving (e : PqEntry) (o : ReleaseOutcome) : AccountQuiet u (noticeOfLeaving e o u) := by
  rw [noticeOfLeaving_frame]
  exact .of_eq rfl rfl rfl

theorem accountQuiet_giveAnswer (a : Answer) : AccountQuiet u (giveAnswer a u) :=
  .of_eq rfl rfl rfl

theorem accountQuiet_answerRetry (r : RetryReason) : AccountQuiet u (answerRetry r u) :=
  (accountQuiet_giveAnswer u _).trans (accountQuiet_bump _ (by cases r <;> decide))

theorem accountQuiet_answerAbort : AccountQuiet u (answerAbort u) :=
  (accountQuiet_giveAnswer u _).trans (accountQuiet_bump _ (by decide))

theorem accountQuiet_mapStreams (f : StreamNo → StreamRecord → StreamRecord) : AccountQuiet u (mapStreams f u) :=
  .of_eq rfl rfl rfl

theorem accountQuiet_setStream (i : StreamNo) (r : StreamRecord) : AccountQuiet u (setStream i r u) :=
  .of_eq rfl rfl rfl

theorem accountQuiet_sealWhere (cause : PqEntry → Bool) : AccountQuiet u (sealWhere cause u) :=
  (AccountQuiet.setPq_map u _).trans (accountQuiet_mapStreams _ _)

theorem accountQuiet_sealAll : AccountQuiet u (sealAll u) :=
  (AccountQuiet.setPq_map u _).trans (accountQuiet_mapStreams _ _)

/-- R123: the drain completes with the PQ empty. -/
theorem accountQuiet_checkDrain : AccountQuiet u (checkDrain u) := by
  rcases checkDrain_cases u with ⟨-, hpq, -, h⟩ | ⟨-, h⟩ <;> rw [h]
  · exact ⟨rfl, fun _ _ => rfl, fun _ => .inr hpq⟩
  · exact .refl u

theorem accountQuiet_freePrt (id : Nat) : AccountQuiet u (freePrt id u) :=
  (AccountQuiet.setPrt u _).trans (accountQuiet_checkDrain _)

theorem accountQuiet_parkFetched (id : Nat) (r : Fetched) : AccountQuiet u (parkFetched id r u) :=
  .setPrt u _

theorem accountQuiet_setTag (t : TagNo) (r : Tag) : AccountQuiet u (setTag t r u) :=
  .setTags u _

theorem accountQuiet_lateResponse (t : TagNo) : AccountQuiet u (lateResponse t u) :=
  (accountQuiet_setTag u t .free).trans (accountQuiet_offerError ..)

theorem accountQuiet_recordExhausted : AccountQuiet u (recordExhausted u) := by
  unfold recordExhausted
  split
  · exact accountQuiet_offerError u _
  · exact .refl u

theorem accountQuiet_endFetch (t : TagNo) (id : Nat) (r : ReadResult) : AccountQuiet u (endFetch t id r u) := by
  unfold endFetch
  split
  · exact accountQuiet_parkFetched ..
  · exact (accountQuiet_offerError ..).trans (accountQuiet_parkFetched ..)
  · exact .refl u

theorem accountQuiet_takeReadResponse (t : TagNo) (r : ReadResult) : AccountQuiet u (takeReadResponse t r u) := by
  unfold takeReadResponse
  split
  · exact (accountQuiet_setTag u t .free).trans (accountQuiet_endFetch ..)
  · exact accountQuiet_setTag u t .free
  · exact accountQuiet_offerError u _
  · exact accountQuiet_lateResponse u t
  · exact accountQuiet_offerError u _

theorem accountQuiet_grantOnce : AccountQuiet u (grantOnce u) := by
  rcases grantOnce_cases u with ⟨-, h⟩ | ⟨-, t, -, ⟨e, -, h⟩ | ⟨p, -, h⟩⟩ <;> rw [h]
  · exact .refl u
  · exact .of_eq (List.length_map _) rfl rfl
  · exact .of_eq rfl rfl rfl

theorem accountQuiet_takeDueGrants : AccountQuiet u (takeDueGrants u) := by
  unfold takeDueGrants
  induction allTags generalizing u with
  | nil => exact .refl u
  | cons t ts ih => exact (accountQuiet_grantOnce u).trans (ih _)

theorem accountQuiet_expireClaim (i : StreamNo) (l : Line) : AccountQuiet u (expireClaim i l u) := by
  rcases expireClaim_cases i l u with h | ⟨p, -, -, -, -, h⟩ <;> rw [h]
  · exact .refl u
  · exact ((accountQuiet_offerError u _).trans (accountQuiet_bump _ (by decide))).trans (accountQuiet_freePrt ..)

theorem accountQuiet_expireLinger (i : StreamNo) (l : Line) : AccountQuiet u (expireLinger i l u) := by
  rcases expireLinger_cases i l u with h | ⟨p, -, -, -, -, h⟩ <;> rw [h]
  · exact .refl u
  · exact accountQuiet_freePrt u _

theorem accountQuiet_advanceTimers : AccountQuiet u (advanceTimers u) :=
  .of_eq (List.length_map _) rfl rfl

theorem accountQuiet_holdFrameEnd (c : Instr) (f : Frame) : AccountQuiet u (holdFrameEnd c f u) := by
  rcases holdFrameEnd_cases c f u with ⟨-, h⟩ | ⟨-, h⟩ <;> rw [h] <;> exact .of_eq rfl rfl rfl

/-- R148: what waits on the port is looked at, and no frame is executed. -/
theorem accountQuiet_resumePort (events : List PortEvent) : AccountQuiet u (resumePort events u) := by
  have hport (v : State) (rest : List PortEvent) : AccountQuiet v (v.setPortWaiting rest) := .of_eq rfl rfl rfl
  have hedge (v : State) (e : PortEdge) : AccountQuiet v (portEdges [e] v) := .of_eq rfl rfl rfl
  induction events generalizing u with
  | nil => exact hport u []
  | cons e rest ih =>
    cases e with
    | edge e => exact (hedge u e).trans (ih _)
    | frameEnd c =>
      unfold resumePort
      split
      · exact (accountQuiet_holdFrameEnd ..).trans (hport _ _)
      · exact ih u

theorem accountQuiet_takeInput : AccountQuiet u (takeInput u) := by
  unfold takeInput
  rcases edgesArrive_cases u.nextInput.edges (u.setCycleInputs u.cycleInputs.tail) with ⟨-, -, h⟩ | ⟨-, h⟩ <;> rw [h] <;>
    exact .of_eq rfl rfl rfl

theorem accountQuiet_assertDrstn : AccountQuiet u (assertDrstn u) := by
  unfold assertDrstn
  split
  · exact .of_eq rfl rfl rfl
  · split
    · exact .refl u
    · have hreset : AccountQuiet (sealAll (u.setDrstn true)) ((sealAll (u.setDrstn true)).setPrt []) := .setPrt _ []
      have hline : AccountQuiet u (u.setDrstn true) := .of_eq rfl rfl rfl
      have hdrop (v : State) (tags : Vector Tag 16) : AccountQuiet v (((dropHeldTransactions v).setTags tags).setBusReset true) :=
        .of_eq rfl rfl rfl
      exact (((hline.trans (accountQuiet_sealAll _)).trans hreset).trans (hdrop _ _)).trans (accountQuiet_checkDrain _)

end

/-! ### The counts of the account -/

/-- R144: a count that is past its maximum stays too. -/
theorem saturatingSucc_eq_max (m n : Nat) : saturatingSucc m n = max n (min m (n + 1)) := by
  unfold saturatingSucc
  split <;> omega

theorem saturatingSucc_mono {a b : Nat} (m : Nat) (h : a ≤ b) : saturatingSucc m a ≤ saturatingSucc m b := by
  simp only [saturatingSucc_eq_max]
  omega

section
variable {joined left : Nat} {u : State}

theorem EntriesBalance.congr {v : State} (h : EntriesBalance joined left u) (hlength : v.pq.length = u.pq.length)
    (hcounter : ∀ c ∈ .writesAccepted :: outcomeCounters, v.counter c = u.counter c) : EntriesBalance joined left v := by
  simp only [outcomeCounters, List.forall_mem_cons] at hcounter
  obtain ⟨haccepted, hmerged, hretired, hfailed, hvoided, -⟩ := hcounter
  rw [EntriesBalance, haccepted, hmerged, hretired, hfailed, hvoided, hlength]
  exact h

theorem EntriesBalance.bump_other (h : EntriesBalance joined left u) {c : Counter} (hc : c ∉ .writesAccepted :: outcomeCounters) :
    EntriesBalance joined left (bump c u) :=
  h.congr rfl fun d hd => by
    have hne : d ≠ c := fun hdc => hc (hdc ▸ hd)
    rw [bump_counter, if_neg hne]

theorem EntriesBalance.bump_accepted (h : EntriesBalance (joined + 1) left u) :
    EntriesBalance joined left (bump .writesAccepted u) := by
  have hpq : (bump .writesAccepted u).pq = u.pq := rfl
  unfold EntriesBalance at h ⊢
  simp only [bump_counter, hpq, reduceCtorEq, if_true, if_false, saturatingSucc_eq_max, Config.counterMax]
  omega

theorem EntriesBalance.bump_outcome (h : EntriesBalance joined (left + 1) u) {c : Counter} (hc : c ∈ outcomeCounters) :
    EntriesBalance joined left (bump c u) := by
  have hpq : (bump c u).pq = u.pq := rfl
  unfold EntriesBalance at h ⊢
  simp only [outcomeCounters, List.mem_cons, List.not_mem_nil, or_false] at hc
  rcases hc with rfl | rfl | rfl | rfl <;>
    simp only [bump_counter, hpq, reduceCtorEq, if_true, if_false, saturatingSucc_eq_max, Config.counterMax] <;> omega

/-- R145: the relations between counters allow a counter on neither smaller side to go up. -/
theorem CountersAgree.bump (h : CountersAgree u) {c : Counter} (hc : c ∉ [.faultMarks, .entriesFailed, .flagsReleased, .lingerHits]) :
    CountersAgree (bump c u) := by
  obtain ⟨hfaults, hflags, hhits⟩ := h
  simp only [List.mem_cons, List.not_mem_nil, or_false, not_or] at hc
  obtain ⟨hnotFaults, hnotFailed, hnotReleased, hnotHits⟩ := hc
  have hup (d : Counter) : u.counter d ≤ (Machine.bump c u).counter d := by
    rw [bump_counter]
    split
    · exact le_saturatingSucc ..
    · exact le_rfl
  have hsame {d : Counter} (hd : d ≠ c) : (Machine.bump c u).counter d = u.counter d := by rw [bump_counter, if_neg hd]
  rw [CountersAgree, hsame (Ne.symm hnotFaults), hsame (Ne.symm hnotFailed), hsame (Ne.symm hnotReleased),
    hsame (Ne.symm hnotHits)]
  exact ⟨hfaults, hflags.trans (hup _), hhits.trans (hup _)⟩

/-- R31: a failure counts in ENTRIES_FAILED and in FAULT_MARKS. -/
theorem CountersAgree.fail (h : CountersAgree u) : CountersAgree (Machine.bump .faultMarks (Machine.bump .entriesFailed u)) := by
  obtain ⟨hfaults, hflags, hhits⟩ := h
  simp only [CountersAgree, bump_counter, reduceCtorEq, if_true, if_false, hfaults]
  exact ⟨trivial, hflags, hhits⟩

/-- R36: a flag released is counted in ENTRIES_RETIRED as well. -/
theorem CountersAgree.release (h : CountersAgree u) :
    CountersAgree (Machine.bump .flagsReleased (Machine.bump .entriesRetired u)) := by
  obtain ⟨hfaults, hflags, hhits⟩ := h
  simp only [CountersAgree, bump_counter, reduceCtorEq, if_true, if_false]
  exact ⟨hfaults, saturatingSucc_mono _ hflags, hhits⟩

/-- R52: a linger hit is counted in READS_DELIVERED as well. -/
theorem CountersAgree.hit (h : CountersAgree u) :
    CountersAgree (Machine.bump .lingerHits (Machine.bump .readsDelivered u)) := by
  obtain ⟨hfaults, hflags, hhits⟩ := h
  simp only [CountersAgree, bump_counter, reduceCtorEq, if_true, if_false]
  exact ⟨hfaults, hflags, saturatingSucc_mono _ hhits⟩

end

end Sys2Proof.Machine

/-! ## The account of R145 over every command. -/

namespace Sys2Proof.Machine

/-! ### Entries that join, leave and are counted -/

/-- R34: every entry judged remains or is voided. -/
theorem voidScan_length (streams : Vector StreamRecord 8) (l kept : List PqEntry) :
    (voidScan streams kept l).1.length + (voidScan streams kept l).2.length = kept.length + l.length := by
  induction l generalizing kept with
  | nil => simp [voidScan]
  | cons e l ih =>
    cases hc : e.isSealed && e.isVoidMarked && !kept.any (holdsBack streams e) with
    | true =>
      rw [voidScan_cons_of_void l hc]
      have hrest := ih kept
      simp only [List.length_cons]
      omega
    | false =>
      rw [voidScan_cons_of_keep l hc, ih]
      simp only [List.length_append, List.length_cons, List.length_nil]
      omega

namespace CounterAccount

variable {u v : State} {joined left : Nat}

theorem quiet (h : CounterAccount joined left u) (hq : AccountQuiet u v) : CounterAccount joined left v where
  balance := h.balance.congr hq.length fun c hc => hq.counter c (List.mem_append_left _ hc)
  agree := by
    have hcounter := hq.counter
    rw [CountersAgree, hcounter .faultMarks (by decide), hcounter .entriesFailed (by decide),
      hcounter .flagsReleased (by decide), hcounter .entriesRetired (by decide), hcounter .lingerHits (by decide),
      hcounter .readsDelivered (by decide)]
    exact h.agree
  offline hv := by
    rcases hq.offline hv with hu | hpq
    · exact List.length_eq_zero_iff.mp (by rw [hq.length, h.offline hu, List.length_nil])
    · exact hpq

/-- Entries leave the PQ, to be counted. -/
theorem leave {n : Nat} (h : CounterAccount joined left u) (hlength : v.pq.length + n = u.pq.length)
    (hcounters : v.counters = u.counters) (hop : v.opState = u.opState) : CounterAccount joined (left + n) v := by
  have hcounter (c : Counter) : v.counter c = u.counter c := by rw [State.counter, hcounters, State.counter]
  refine ⟨?_, ?_, fun hv => ?_⟩
  · have hbalance := h.balance
    unfold EntriesBalance at hbalance ⊢
    simp only [hcounter]
    omega
  · rw [CountersAgree]
    simp only [hcounter]
    exact h.agree
  · rw [h.offline (hop ▸ hv)] at hlength
    exact List.length_eq_zero_iff.mp (by simp only [List.length_nil] at hlength; omega)

/-- R1: an entry joins the PQ, its WRITE to be counted. -/
theorem append (h : CounterAccount joined left u) (honline : u.opState = .online) (i : StreamNo) (l : Line) (bytes : ByteSet)
    (kind : EntryKind) (state : EntryState) : CounterAccount (joined + 1) left (appendEntry i l bytes kind state u) := by
  refine ⟨?_, h.agree, fun hoffline => ?_⟩
  · have hlength : (appendEntry i l bytes kind state u).pq.length = u.pq.length + 1 := List.length_append
    have hbalance := h.balance
    have hcounter (c : Counter) : (appendEntry i l bytes kind state u).counter c = u.counter c := rfl
    unfold EntriesBalance at hbalance ⊢
    simp only [hcounter, hlength]
    omega
  · exact absurd (honline.symm.trans hoffline) (by decide)

theorem accept (h : CounterAccount (joined + 1) left u) : CounterAccount joined left (answerAccept u) :=
  let answered := h.quiet (accountQuiet_giveAnswer u .accept)
  ⟨answered.balance.bump_accepted, answered.agree.bump (by decide), answered.offline⟩

/-- R7: a merged write joins no entry; it is counted as merged and as accepted. -/
theorem merge (h : CounterAccount joined left u) : CounterAccount (joined + 1) left (bump .writesMerged u) := by
  have hbalance : EntriesBalance (joined + 1) (left + 1) u := by
    have hbalance := h.balance
    unfold EntriesBalance at hbalance ⊢
    omega
  exact ⟨hbalance.bump_outcome (by decide), h.agree.bump (by decide), h.offline⟩

theorem noteVoided (h : CounterAccount joined (left + 1) u) (e : PqEntry) : CounterAccount joined left (noteVoided u e) := by
  have hcounted : CounterAccount joined left (bump .flagsVoided u) :=
    ⟨h.balance.bump_outcome (by decide), h.agree.bump (by decide), h.offline⟩
  exact hcounted.quiet (accountQuiet_noticeOfLeaving ..)

/-- R36: the entries of a list are counted as voided. -/
theorem foldl_noteVoided (l : List PqEntry) (h : CounterAccount joined (left + l.length) u) :
    CounterAccount joined left (l.foldl Machine.noteVoided u) := by
  induction l generalizing u with
  | nil => exact h
  | cons e l ih => exact ih (noteVoided h e)

/-- R34, R36: what is voided leaves and is counted. -/
theorem voidPass (h : CounterAccount joined left u) : CounterAccount joined left (voidPass u) := by
  have hlength := voidScan_length u.streams u.pq []
  rw [List.length_nil, Nat.zero_add] at hlength
  exact foldl_noteVoided _ (h.leave hlength rfl rfl)

theorem afterLeaving (h : CounterAccount joined left u) : CounterAccount joined left (afterLeaving u) :=
  h.voidPass.quiet (accountQuiet_checkDrain _)

theorem leavePq (h : CounterAccount joined left u) {e : PqEntry} (he : e ∈ u.pq) :
    CounterAccount joined (left + 1) (leavePq e.id u) := by
  refine h.leave ?_ rfl rfl
  have hlength : (u.pq.eraseP fun x => x.id == e.id).length = u.pq.length - 1 :=
    List.length_eraseP_of_mem he (beq_self_eq_true e.id)
  have hpos := List.length_pos_of_mem he
  rw [leavePq_eq]
  simp only [State.setPrt_pq, State.setPq_pq, hlength]
  omega

/-- R21, R36: an entry of the PQ retires. -/
theorem retireEntry (h : CounterAccount joined left u) {e : PqEntry} (he : e ∈ u.pq) :
    CounterAccount joined left (retireEntry e u) := by
  have hleft := h.leavePq he
  have hretired := hleft.balance.bump_outcome (c := .entriesRetired) (by decide)
  have hcounted : CounterAccount joined left (countReleased e (bump .entriesRetired (Machine.leavePq e.id u))) := by
    unfold countReleased
    split
    · exact ⟨hretired.bump_other (by decide), hleft.agree.release, hleft.offline⟩
    · exact ⟨hretired, hleft.agree.bump (by decide), hleft.offline⟩
  exact (hcounted.quiet (accountQuiet_noticeOfLeaving ..)).afterLeaving

/-- R21, R31: an entry of the PQ fails. -/
theorem failEntry (h : CounterAccount joined left u) {e : PqEntry} (he : e ∈ u.pq) :
    CounterAccount joined left (failEntry e u) := by
  have hleft := h.leavePq he
  have hfailed := hleft.balance.bump_outcome (c := .entriesFailed) (by decide)
  have hcounted : CounterAccount joined left (bump .faultMarks (bump .entriesFailed (Machine.leavePq e.id u))) :=
    ⟨hfailed.bump_other (by decide), hleft.agree.fail, hleft.offline⟩
  have hmarked : CounterAccount joined left (markFault e.stream (bump .entriesFailed (Machine.leavePq e.id u))) :=
    hcounted.quiet (.of_eq (List.length_map _) rfl rfl)
  exact (hmarked.quiet (accountQuiet_noticeOfLeaving ..)).afterLeaving

/-- R52: a linger hit. -/
theorem lingerHit (h : CounterAccount joined left u) (bytes : List Byte) :
    CounterAccount joined left (bump .lingerHits (answerData bytes u)) :=
  let answered := h.quiet (accountQuiet_giveAnswer u (.data bytes))
  ⟨(answered.balance.bump_other (by decide)).bump_other (by decide), answered.agree.hit, answered.offline⟩

theorem answerData (h : CounterAccount joined left u) (bytes : List Byte) : CounterAccount joined left (answerData bytes u) :=
  let answered := h.quiet (accountQuiet_giveAnswer u (.data bytes))
  ⟨answered.balance.bump_other (by decide), answered.agree.bump (by decide), answered.offline⟩

theorem foldl {α : Type} {f : State → α → State}
    (hf : ∀ a v, CounterAccount joined left v → CounterAccount joined left (f v a)) (l : List α)
    (h : CounterAccount joined left u) : CounterAccount joined left (l.foldl f u) := by
  induction l generalizing u with
  | nil => exact h
  | cons a l ih => exact ih (hf a u h)

/-! ### Responses and expiries -/

/-- R75, R81: an entry fails with its record. -/
theorem failEntry_offerError (h : CounterAccount joined left u) {e : PqEntry} (he : e ∈ u.pq) (r : ErrorRecord) :
    CounterAccount joined left (Machine.failEntry e (offerError r u)) := by
  have hpq : (offerError r u).pq = u.pq := by rw [offerError_frame]; rfl
  exact (h.quiet (accountQuiet_offerError u r)).failEntry (hpq ▸ he)

theorem endWrite (h : CounterAccount joined left u) (t : TagNo) (id : Nat) (st : ResponseStatus) :
    CounterAccount joined left (endWrite t id st u) := by
  unfold Machine.endWrite
  split
  · rename_i e hfind
    obtain ⟨he, -⟩ := mem_of_findPq hfind
    exact h.retireEntry he
  · rename_i e hfind
    obtain ⟨he, -⟩ := mem_of_findPq hfind
    exact h.failEntry_offerError he _
  · exact h

theorem takeWriteResponse (h : CounterAccount joined left u) (t : TagNo) (st : ResponseStatus) :
    CounterAccount joined left (takeWriteResponse t st u) := by
  unfold Machine.takeWriteResponse
  split
  · exact (h.quiet (accountQuiet_setTag u t .free)).endWrite ..
  · exact h.quiet (accountQuiet_offerError u _)
  · exact h.quiet (accountQuiet_offerError u _)
  · exact h.quiet (accountQuiet_lateResponse u t)
  · exact h.quiet (accountQuiet_offerError u _)

theorem tellOwnerLapsed (h : CounterAccount joined left u) (t : TagNo) (o : Owner) :
    CounterAccount joined left (tellOwnerLapsed t o u) := by
  unfold Machine.tellOwnerLapsed
  split
  · split
    · rename_i e hfind
      obtain ⟨he, -⟩ := mem_of_findPq hfind
      exact h.failEntry_offerError he _
    · exact h
  · split
    · exact h.quiet ((accountQuiet_offerError u _).trans (accountQuiet_parkFetched ..))
    · exact h
  · exact h

theorem expireMemory (h : CounterAccount joined left u) (t : TagNo) : CounterAccount joined left (expireMemory t u) := by
  rcases expireMemory_cases t u with heq | ⟨o, timer, -, -, heq⟩ <;> rw [heq]
  · exact h
  · have hlapsed := h.quiet ((accountQuiet_setTag u t .lapsed).trans (accountQuiet_bump (c := .memTimeouts) _ (by decide)))
    exact (hlapsed.tellOwnerLapsed t o).quiet (accountQuiet_recordExhausted _)

theorem takeDueExpiries (h : CounterAccount joined left u) : CounterAccount joined left (takeDueExpiries u) := by
  have hmemory := h.foldl (fun t v hv => hv.expireMemory t) allTags
  have hage := hmemory.foldl (fun i v hv => hv.quiet (accountQuiet_sealWhere v fun e => e.stream == i && e.ageDue)) allStreams
  have hclaim (l : List PrtEntry) := hage.foldl (fun p v hv => hv.quiet (accountQuiet_expireClaim v p.stream p.line)) l
  exact (hclaim _).foldl (fun p v hv => hv.quiet (accountQuiet_expireLinger v p.stream p.line)) _

theorem takeDue (h : CounterAccount joined left u) : CounterAccount joined left (takeDue u) :=
  h.takeDueExpiries.quiet (accountQuiet_takeDueGrants _)

/-! ### Transactions -/

theorem mergeInto (h : CounterAccount joined left u) (e : PqEntry) (bytes : ByteSet) :
    CounterAccount (joined + 1) left (mergeInto e bytes u) := by
  have hmerged (f : PqEntry → PqEntry) : CounterAccount (joined + 1) left (bump .writesMerged (u.setPq (u.pq.map f))) :=
    (h.quiet (.setPq_map u f)).merge
  unfold Machine.mergeInto
  dsimp only
  split
  · exact (hmerged _).quiet (accountQuiet_sealWhere ..)
  · exact hmerged _

/-- R10 to R12: a treatment that reaches the PQ appends one entry. -/
theorem appendFor (h : CounterAccount joined left u) (honline : u.opState = .online) {tr : WriteTreatment} (htr : tr ≠ .refuse)
    (i : StreamNo) (l : Line) (bytes : ByteSet) (w : WindowNo) (notify : Bool) :
    CounterAccount (joined + 1) left (appendFor tr i l bytes w notify u) := by
  have hopen (ref : Option Nat) (v : State) : AccountQuiet v (setOpenEntry i ref v) := accountQuiet_setStream ..
  cases tr with
  | post => exact h.append honline ..
  | release => exact h.append honline ..
  | refuse => exact absurd rfl htr
  | merge =>
    dsimp only [Machine.appendFor, appendMerge]
    split <;> exact (h.append honline ..).quiet (hopen _ _)

theorem postNewEntry (h : CounterAccount joined left u) (honline : u.opState = .online) {tr : WriteTreatment} (htr : tr ≠ .refuse)
    (i : StreamNo) (l : Line) (bytes : ByteSet) (w : WindowNo) (notify : Bool) :
    CounterAccount joined left (postNewEntry tr i l bytes w notify u) := by
  unfold Machine.postNewEntry
  split
  · have hsealed : CounterAccount joined left (sealsBeforeAppend i l u) :=
      h.quiet ((accountQuiet_sealWhere u _).trans (accountQuiet_sealWhere ..))
    exact ((hsealed.appendFor honline htr i l bytes w notify).quiet (.setPrt _ _)).voidPass.accept
  · exact h.quiet (accountQuiet_answerRetry ..)

theorem postWrite (h : CounterAccount joined left u) (honline : u.opState = .online) {tr : WriteTreatment} (htr : tr ≠ .refuse)
    (i : StreamNo) (l : Line) (bytes : ByteSet) (w : WindowNo) (notify : Bool) :
    CounterAccount joined left (postWrite tr i l bytes w notify u) := by
  unfold Machine.postWrite
  split
  · exact ((h.mergeInto _ bytes).quiet (.setPrt _ _)).accept
  · exact h.postNewEntry honline htr ..

theorem checkStateAndHold (h : CounterAccount joined left u) (i : StreamNo) {work : State → State}
    (hwork : u.opState = .online → CounterAccount joined left (work u)) :
    CounterAccount joined left (checkStateAndHold i work u) := by
  unfold Machine.checkStateAndHold
  split
  · exact h.quiet (accountQuiet_answerRetry ..)
  · rename_i honline
    split
    · exact h.quiet (accountQuiet_answerRetry ..)
    · exact hwork (not_not.mp honline)

theorem abort (h : CounterAccount joined left u) (r : ErrorRecord) :
    CounterAccount joined left (answerAbort (offerError r u)) :=
  h.quiet ((accountQuiet_offerError u r).trans (accountQuiet_answerAbort _))

theorem writeTransaction (h : CounterAccount joined left u) (i : StreamNo) (a : Address) (data : List Byte) :
    CounterAccount joined left (writeTransaction i a data u) := by
  unfold Machine.writeTransaction
  split
  · exact h.abort _
  · split
    · exact h.abort _
    · split
      · exact h.abort _
      · rename_i htr
        exact h.checkStateAndHold i fun honline => h.postWrite honline htr ..

theorem claimParked (h : CounterAccount joined left u) (p : PrtEntry) (line : LineData) (o : Offset) (n : Nat) :
    CounterAccount joined left (claimParked p line o n u) := by
  unfold Machine.claimParked
  split
  · exact (h.quiet (.setPrt u _)).answerData _
  · exact (h.quiet (accountQuiet_freePrt ..)).answerData _

theorem serveMatch (h : CounterAccount joined left u) (p : PrtEntry) (o : Offset) (n : Nat) :
    CounterAccount joined left (serveMatch p o n u) := by
  unfold Machine.serveMatch
  split
  · exact h.quiet (accountQuiet_answerRetry ..)
  · exact h.quiet (accountQuiet_answerRetry ..)
  · exact h.quiet ((accountQuiet_freePrt ..).trans (accountQuiet_answerAbort _))
  · exact h.claimParked ..
  · exact h.lingerHit _

theorem parkRead (h : CounterAccount joined left u) (rt : ReadTreatment) (i : StreamNo) (l : Line) (o : Offset) (n : Nat) :
    CounterAccount joined left (parkRead rt i l o n u) := by
  have hparked (x : List PrtEntry) : CounterAccount joined left ((u.setPrt x).setNextId (u.nextId + 1)) :=
    h.quiet (.of_eq rfl rfl rfl)
  exact (hparked _).quiet ((accountQuiet_sealWhere ..).trans (accountQuiet_answerRetry ..))

theorem parkRequest (h : CounterAccount joined left u) (rt : ReadTreatment) (i : StreamNo) (l : Line) (o : Offset) (n : Nat) :
    CounterAccount joined left (parkRequest rt i l o n u) := by
  unfold Machine.parkRequest
  split
  · exact h.quiet (accountQuiet_answerRetry ..)
  · split
    · exact h.parkRead ..
    · split
      · exact (h.quiet (accountQuiet_freePrt ..)).parkRead ..
      · exact h.quiet (accountQuiet_answerRetry ..)

theorem readTransaction (h : CounterAccount joined left u) (i : StreamNo) (a : Address) (n : Nat) :
    CounterAccount joined left (readTransaction i a n u) := by
  unfold Machine.readTransaction
  split
  · exact h.abort _
  · split
    · exact h.abort _
    · split
      · exact h.abort _
      · split
        · exact h.serveMatch ..
        · exact h.checkStateAndHold i fun _ => h.parkRequest ..

end CounterAccount

/-! ### Rows of the management port -/

section
variable (u : State) (r : FrameRequest)

theorem accountQuiet_writeTimer (k : TimerItem) (data : List Byte) : AccountQuiet u (writeTimer k data u).1 := by
  unfold writeTimer
  split_ifs <;> exact .of_eq rfl rfl rfl

theorem accountQuiet_writeWindow (w : WindowNo) (data : List Byte) : AccountQuiet u (writeWindow w data u).1 := by
  unfold writeWindow
  split
  · exact .refl u
  · split <;> exact .of_eq rfl rfl rfl

theorem accountQuiet_writeOrderMode (i : StreamNo) (data : List Byte) : AccountQuiet u (writeOrderMode i data u).1 := by
  unfold writeOrderMode
  split
  · split
    · exact .refl u
    · split
      · exact accountQuiet_setStream ..
      · exact .refl u
  · exact .refl u

theorem accountQuiet_writeItemAction : AccountQuiet u (writeItemAction r u).1 := by
  unfold writeItemAction
  split
  · exact accountQuiet_writeTimer ..
  · exact accountQuiet_writeWindow ..
  · exact accountQuiet_writeOrderMode ..
  all_goals exact .refl u

theorem accountQuiet_readItemAction : AccountQuiet u (readItemAction r u).1 := by
  unfold readItemAction
  split <;> exact .refl u

/-- R121: START leaves OFFLINE. -/
theorem accountQuiet_startAction : AccountQuiet u (startAction r u).1 := by
  unfold startAction
  split
  · exact ⟨rfl, fun _ _ => rfl, fun hoffline => absurd hoffline (by simp)⟩
  · exact .refl u
  · exact .refl u

/-- R122, R123: STOP enters OFFLINE by the drain alone. -/
theorem accountQuiet_stopAction : AccountQuiet u (stopAction r u).1 := by
  have hdraining : AccountQuiet u (u.setOpState .draining) :=
    ⟨rfl, fun _ _ => rfl, fun hoffline => absurd hoffline (by simp)⟩
  unfold stopAction
  split
  · exact ((hdraining.trans (accountQuiet_sealAll _)).trans (.setPrt _ _)).trans (accountQuiet_checkDrain _)
  · exact .refl u
  · exact .refl u

theorem accountQuiet_holdAction : AccountQuiet u (holdAction r u).1 := by
  rw [holdAction_eq_sealWhere]
  exact (accountQuiet_sealWhere u _).trans (accountQuiet_mapStreams ..)

theorem accountQuiet_unholdAction : AccountQuiet u (unholdAction r u).1 :=
  accountQuiet_mapStreams u _

theorem accountQuiet_clearFaultAction : AccountQuiet u (clearFaultAction r u).1 :=
  accountQuiet_mapStreams u _

theorem accountQuiet_freeLapsedAction : AccountQuiet u (freeLapsedAction r u).1 :=
  .setTags u _

theorem accountQuiet_takeNoticeAction : AccountQuiet u (takeNoticeAction r u).1 := by
  unfold takeNoticeAction
  split <;> exact .of_eq rfl rfl rfl

theorem accountQuiet_takeRecord : AccountQuiet u (takeRecord u).1 := by
  unfold takeRecord
  split <;> exact .of_eq rfl rfl rfl

theorem accountQuiet_takeLostCount : AccountQuiet u (takeLostCount u).1 :=
  .of_eq rfl rfl rfl

theorem accountQuiet_takeErrorAction : AccountQuiet u (takeErrorAction r u).1 := by
  unfold takeErrorAction
  split
  · exact accountQuiet_takeRecord u
  · split
    · exact accountQuiet_takeLostCount u
    · exact .refl u

/-- R126: the row that moves a counter of the account is CLEAR in OFFLINE. -/
theorem rowAction_account (c : Instr) :
    AccountQuiet u (rowAction c r u).1 ∨ (u.opState = .offline ∧ (rowAction c r u).1 = clearAll u) := by
  cases c with
  | readItem => exact .inl (accountQuiet_readItemAction u r)
  | writeItem => exact .inl (accountQuiet_writeItemAction u r)
  | writeItemWindow w => exact .inl (accountQuiet_writeWindow u w r.data)
  | writeItemTimer k => exact .inl (accountQuiet_writeTimer u k r.data)
  | writeItemOrderMode i => exact .inl (accountQuiet_writeOrderMode u i r.data)
  | start => exact .inl (accountQuiet_startAction u r)
  | stop => exact .inl (accountQuiet_stopAction u r)
  | clear tail =>
    by_cases hoffline : u.opState = .offline
    · exact .inr ⟨hoffline, by simp [rowAction, clearAction, hoffline]⟩
    · have hsame : (rowAction (.clear tail) r u).1 = u := congrArg Prod.fst (clearAction_of_not_offline r hoffline)
      exact .inl (by rw [hsame]; exact .refl u)
  | hold => exact .inl (accountQuiet_holdAction u r)
  | unhold => exact .inl (accountQuiet_unholdAction u r)
  | clearFault => exact .inl (accountQuiet_clearFaultAction u r)
  | takeNotice => exact .inl (accountQuiet_takeNoticeAction u r)
  | takeErrorRecordForm => exact .inl (accountQuiet_takeErrorAction u r)
  | takeErrorLostCountForm => exact .inl (accountQuiet_takeLostCount u)
  | freeLapsed => exact .inl (accountQuiet_freeLapsedAction u r)
  | _ => exact .inl (.refl u)

end

/-! ### Resets, frames and cycles -/

/-- An account of counters that all stand at 0, with the PQ empty. -/
theorem counterAccount_of_zero {u : State} (hcounter : ∀ c, u.counter c = 0) (hpq : u.pq = []) : CounterAccount 0 0 u := by
  refine ⟨?_, ?_, fun _ => hpq⟩
  · unfold EntriesBalance
    simp [hcounter, hpq]
  · simp [CountersAgree, hcounter]

theorem clearAll_counter (u : State) (c : Counter) : (clearAll u).counter c = 0 := by
  simp [clearAll_eq, State.counter]

theorem counterAccount_powerOnState (s : State) : CounterAccount 0 0 (powerOnState s) := by
  refine counterAccount_of_zero (fun c => ?_) rfl
  simp [powerOnState, State.reset, State.counter]

namespace CounterAccount

variable {u : State}

theorem rowAction (h : CounterAccount 0 0 u) (c : Instr) (r : FrameRequest) : CounterAccount 0 0 (rowAction c r u).1 := by
  rcases rowAction_account u r c with hq | ⟨hoffline, heq⟩
  · exact h.quiet hq
  · rw [heq]
    exact counterAccount_of_zero (clearAll_counter u) ((clearAll_pq u).trans (h.offline hoffline))

theorem takeFrame (h : CounterAccount 0 0 u) (c : Instr) (f : Frame) : CounterAccount 0 0 (takeFrame c f u) := by
  have hreply (v : State) (r : Reply) : AccountQuiet v (v.setReply r) := .of_eq rfl rfl rfl
  rcases takeFrame_cases c f u with ⟨-, heq⟩ | ⟨r, -, heq⟩ <;> rw [heq]
  · exact h.quiet (hreply ..)
  · exact (h.rowAction c r).quiet (hreply ..)

theorem endFrame (h : CounterAccount 0 0 u) {c : Instr} {f : Frame} (hf : frameOfInstr c = some f) :
    CounterAccount 0 0 (endFrame c u) := by
  have hended : CounterAccount 0 0 (frameEnded f (u.setMisos [])) := h.quiet (.of_eq rfl rfl rfl)
  rw [endFrame_eq c f u hf]
  rcases arriveAtManagement_cases c f (u.setMisos []) with ⟨-, heq⟩ | ⟨-, -, heq⟩ | ⟨-, -, -, heq⟩ | ⟨-, -, -, heq⟩ <;> rw [heq]
  · exact hended
  · rcases takeFrameEnd_cases c f (u.setMisos []) with ⟨-, heq⟩ | ⟨-, heq⟩ <;> rw [heq]
    · exact hended.quiet (.of_eq rfl rfl rfl)
    · exact hended.takeFrame ..
  · exact h.quiet (.of_eq rfl rfl rfl)
  · have hmisos : AccountQuiet u (u.setMisos []) := .of_eq rfl rfl rfl
    exact h.quiet (hmisos.trans (accountQuiet_holdFrameEnd ..))

/-- R162: a held event is taken. -/
theorem takeEvent (h : CounterAccount 0 0 u) (x : HeldEvent) : CounterAccount 0 0 (takeEvent x u) := by
  have hspoiled : AccountQuiet u (takeSpoiledFrame u) := .of_eq rfl rfl rfl
  unfold Machine.takeEvent
  split
  · exact h.quiet (hspoiled.trans (accountQuiet_resumePort ..))
  · exact h.writeTransaction ..
  · exact h.readTransaction ..
  · exact h.takeWriteResponse ..
  · exact h.quiet (accountQuiet_takeReadResponse ..)
  · unfold takeHeldFrame
    split
    · exact (h.takeFrame ..).quiet (accountQuiet_resumePort ..)
    · exact h

theorem takeOldestHeld (h : CounterAccount 0 0 u) : CounterAccount 0 0 (takeOldestHeld u) := by
  rcases takeOldestHeld_cases u with ⟨-, heq⟩ | ⟨x, rest, -, heq⟩ <;> rw [heq]
  · exact h
  · have hrest : CounterAccount 0 0 (u.setHeld rest) := h.quiet (.of_eq rfl rfl rfl)
    exact (hrest.takeEvent x).quiet (accountQuiet_takeDueGrants _)

theorem takeHeldUpTo (h : CounterAccount 0 0 u) (n : Nat) : CounterAccount 0 0 (takeHeldUpTo n u) := by
  induction n generalizing u with
  | zero => exact h
  | succ n ih => exact ih h.takeOldestHeld

theorem takeWaiting (h : CounterAccount 0 0 u) : CounterAccount 0 0 (takeWaiting u) := by
  have hcleared : CounterAccount 0 0 (clearOutputs u) := h.quiet (.of_eq rfl rfl rfl)
  exact hcleared.takeDue.takeHeldUpTo _

theorem tickOnce (h : CounterAccount 0 0 u) : CounterAccount 0 0 (tickOnce u) :=
  (h.takeWaiting.quiet (accountQuiet_advanceTimers _)).quiet (.setTbCount ..)

theorem refclkOnce (h : CounterAccount 0 0 u) : CounterAccount 0 0 (refclkOnce u) := by
  unfold Machine.refclkOnce
  split
  · exact h.tickOnce
  · exact h.takeWaiting.quiet (.setTbCount ..)

theorem takeDueBeforeStop (h : CounterAccount 0 0 u) (stops : Bool) : CounterAccount 0 0 (takeDueBeforeStop stops u) := by
  rcases takeDueBeforeStop_cases stops u with ⟨-, heq⟩ | ⟨-, heq⟩ <;> rw [heq]
  · exact h.takeDue
  · exact h

theorem arriveAtDeviceBus (h : CounterAccount 0 0 u) (c : Instr) {take : State → State} (htake : CounterAccount 0 0 (take u)) :
    CounterAccount 0 0 (arriveAtDeviceBus c take u) := by
  rcases arriveAtDeviceBus_cases c take u with ⟨-, heq⟩ | ⟨-, -, -, heq⟩ | ⟨-, -, -, heq⟩ <;> rw [heq]
  · exact h
  · exact h.quiet (.of_eq rfl rfl rfl)
  · exact htake

theorem arriveAtMemoryLink (h : CounterAccount 0 0 u) (c : Instr) {take : State → State} (htake : CounterAccount 0 0 (take u)) :
    CounterAccount 0 0 (arriveAtMemoryLink c take u) := by
  rcases arriveAtMemoryLink_cases c take u with ⟨-, heq⟩ | ⟨-, -, heq⟩ | ⟨-, -, heq⟩ <;> rw [heq]
  · exact h
  · exact h.quiet (.of_eq rfl rfl rfl)
  · exact htake

/-! ### Every command -/

/-- R145: every command keeps the account. -/
theorem exec {c : Instr} {t : State} (h : CounterAccount 0 0 u) (hexec : exec c u = .next t) : CounterAccount 0 0 t := by
  have hsame {v : State} (hlength : v.pq.length = u.pq.length) (hcounters : v.counters = u.counters)
      (hop : v.opState = u.opState) : CounterAccount 0 0 v := h.quiet (.of_eq hlength hcounters hop)
  have hanswers : CounterAccount 0 0 (u.setAnswers []) := hsame rfl rfl rfl
  have hexpiry {v : State} (hv : CounterAccount 0 0 v) : CounterAccount 0 0 (if timersRun u then v else u) := by
    split
    · exact hv
    · exact h
  cases c with
  | write i a data =>
    cases hexec
    exact hanswers.arriveAtDeviceBus _ (hanswers.writeTransaction ..)
  | read i a n =>
    cases hexec
    exact hanswers.arriveAtDeviceBus _ (hanswers.readTransaction ..)
  | grant =>
    cases hexec
    have hrequests : CounterAccount 0 0 (u.setRequests []) := hsame rfl rfl rfl
    exact hrequests.quiet (accountQuiet_grantOnce _)
  | writeResponse tag st =>
    cases hexec
    exact h.arriveAtMemoryLink _ (h.takeWriteResponse ..)
  | readResponse tag r =>
    cases hexec
    exact h.arriveAtMemoryLink _ (h.quiet (accountQuiet_takeReadResponse ..))
  | readyAssertion =>
    cases hexec
    exact hsame rfl rfl rfl
  | readyDeassertion =>
    cases hexec
    exact hsame rfl rfl rfl
  | tick =>
    cases hexec
    split
    · exact h
    · exact h.tickOnce.quiet (.setRefclkStopped ..)
  | combineAgeExpiry i =>
    cases hexec
    exact hexpiry (h.quiet (accountQuiet_sealWhere ..))
  | claimTimeOut i l =>
    cases hexec
    exact hexpiry (h.quiet (accountQuiet_expireClaim ..))
  | lingerTimerExpiry i l =>
    cases hexec
    exact hexpiry (h.quiet (accountQuiet_expireLinger ..))
  | memoryTimeOut tag =>
    cases hexec
    exact hexpiry (h.expireMemory tag)
  | dBusReset =>
    cases hexec
    exact h.quiet (accountQuiet_assertDrstn u)
  | releaseOfDrstn =>
    cases hexec
    exact hsame rfl rfl rfl
  | powerOnReset =>
    cases hexec
    exact counterAccount_powerOnState u
  | releaseOfPorn csLow fullPulse =>
    rw [show Machine.exec (.releaseOfPorn csLow fullPulse) u = execReleaseOfPorn csLow fullPulse u from rfl,
      execReleaseOfPorn] at hexec
    split at hexec
    · split at hexec
      · cases hexec
        exact hsame rfl rfl rfl
      · cases hexec
    · cases hexec
      exact h
  | refclkCycle =>
    cases hexec
    have hinput := h.quiet (accountQuiet_takeInput u)
    split
    · exact hinput.quiet (.setRefclkStopped ..)
    · exact (hinput.refclkOnce.takeDueBeforeStop _).quiet (.setRefclkStopped ..)
  | _ =>
    cases hexec
    exact h.endFrame rfl

end CounterAccount

/-- Settles O60: the account of a state with OFFLINE only while the PQ is empty (R119), which every command keeps. -/
theorem everyStepKeepsTheAccount : Obligations.EveryStepKeepsTheAccount := by
  intro s t hinv _ ⟨haccounted, hagree⟩ hstep
  have hstart : CounterAccount 0 0 s :=
    ⟨(entriesBalance_zero_iff s).mpr haccounted, hagree, fun hoffline => (hinv.drain.1 hoffline).1⟩
  have hend : CounterAccount 0 0 t := by
    cases hpending : s.pending with
    | nil =>
      rw [step_of_pending_nil hpending] at hstep
      cases hstep
      exact hstart
    | cons c rest =>
      rw [step_of_pending_cons hpending] at hstep
      have htaken : CounterAccount 0 0 (s.setPending rest) := hstart.quiet (.of_eq rfl rfl rfl)
      exact htaken.exec hstep
  exact ⟨(entriesBalance_zero_iff t).mp hend.balance, hend.agree⟩

end Sys2Proof.Machine

/-! ## Frames and the rows they belong to (tables 9-3, 9-4, R149, R153, R154, R158). -/

namespace Sys2Proof

/-! ### Item numbers -/

/-- Table 9-4: no item has a number above those of the counters. -/
theorem itemOfNumber_of_large {n : Nat} (h : 0x52 < n) : itemOfNumber n = none := by
  unfold itemOfNumber
  repeat rw [if_neg (by omega)]
  repeat rw [dif_neg (by omega)]

/-- Table 9-4: the item that a number names has that number. -/
theorem itemNumber_of_itemOfNumber {n : Nat} {it : Item} (h : itemOfNumber n = some it) : itemNumber it = n := by
  have htable : ∀ n : Fin 0x53, (itemOfNumber n).all (fun it => itemNumber it == n) = true := by decide
  by_cases hlarge : 0x52 < n
  · rw [itemOfNumber_of_large hlarge] at h
    cases h
  · simpa [h] using htable ⟨n, by omega⟩

/-- Table 9-4: every item is named by its number. -/
theorem itemOfNumber_itemNumber (it : Item) : itemOfNumber (itemNumber it) = some it := by
  cases it with
  | timer k => cases k <;> rfl
  | window w => revert w; decide
  | stream i => revert i; decide
  | counter c => revert c; decide
  | _ => rfl

theorem itemNumber_le (it : Item) : itemNumber it ≤ 0x52 := by
  by_contra hlarge
  have hnone := itemOfNumber_of_large (Nat.lt_of_not_le hlarge)
  rw [itemOfNumber_itemNumber] at hnone
  cases hnone

/-- R149: the two bytes of an item field that names an item are those of the item's number. -/
theorem beBytes_itemNumber {hi lo : Byte} {it : Item} (h : itemOfNumber (beNat [hi, lo]) = some it) :
    beBytes 2 (itemNumber it) = [hi, lo] := by
  rw [itemNumber_of_itemOfNumber h]
  exact beBytes_beNat [hi, lo]

/-! ### The row of a frame -/

theorem eq_commandCode_of_commandOfCode {b : Byte} {k : Command} (h : commandOfCode b = some k) : b = commandCode k := by
  have hcode := List.find?_some h
  exact (beq_iff_eq.mp hcode).symm

/-- R153: a WRITE ITEM frame is the frame of its row, which is that of the item it names. -/
theorem writeItemRow_spec (bytes : List Byte) (extra : Fin 8) :
    (writeItemRow bytes extra).WellFormed = true ∧
      frameOfInstr (writeItemRow bytes extra) = some (commandFrame .writeItem ⟨bytes, extra⟩) := by
  rcases bytes with _ | ⟨hi, _ | ⟨lo, rest⟩⟩
  · exact ⟨rfl, rfl⟩
  · exact ⟨rfl, rfl⟩
  have hframe {it : Item} (h : itemOfNumber (beNat [hi, lo]) = some it) :
      itemFrame .writeItem (itemNumber it) ⟨rest, extra⟩ = commandFrame .writeItem ⟨hi :: lo :: rest, extra⟩ := by
    rw [itemFrame, beBytes_itemNumber h]
    rfl
  unfold writeItemRow
  dsimp only
  cases hitem : itemOfNumber (beNat [hi, lo]) with
  | none => exact ⟨by simp [Instr.WellFormed, writeItemWellFormed, itemFieldOfTail, hitem], rfl⟩
  | some it =>
    cases it with
    | window w => exact ⟨rfl, congrArg some (hframe hitem)⟩
    | timer k => exact ⟨rfl, congrArg some (hframe hitem)⟩
    | stream i => exact ⟨rfl, congrArg some (hframe hitem)⟩
    | _ => exact ⟨by simp [Instr.WellFormed, writeItemWellFormed, itemFieldOfTail, hitem], rfl⟩

/-- R158: a TAKE ERROR frame is the frame of its row, which its form selector gives. -/
theorem takeErrorRow_spec (bytes : List Byte) (extra : Fin 8) :
    (takeErrorRow bytes extra).WellFormed = true ∧
      frameOfInstr (takeErrorRow bytes extra) = some (commandFrame .takeError ⟨bytes, extra⟩) := by
  rcases bytes with _ | ⟨hi, _ | ⟨lo, rest⟩⟩
  · exact ⟨rfl, rfl⟩
  · exact ⟨rfl, rfl⟩
  unfold takeErrorRow
  dsimp only
  split
  · rename_i hform
    have hfield : beBytes 2 1 = [hi, lo] := hform ▸ beBytes_beNat [hi, lo]
    refine ⟨rfl, ?_⟩
    show some (itemFrame .takeError 1 ⟨rest, extra⟩) = _
    rw [itemFrame, hfield]
    rfl
  · rename_i hform
    exact ⟨by simpa [Instr.WellFormed, takeErrorRecordWellFormed, itemFieldOfTail] using hform, rfl⟩

/-- Table 9-3: every frame is the frame of its row, and the row is well-formed. -/
theorem instrOfFrame_spec (f : Frame) : (instrOfFrame f).WellFormed = true ∧ frameOfInstr (instrOfFrame f) = some f := by
  obtain ⟨bytes, extra⟩ := f
  cases bytes with
  | nil => exact ⟨rfl, rfl⟩
  | cons b rest =>
    cases hk : commandOfCode b with
    | none => simp [instrOfFrame, hk, Instr.WellFormed, nopFrameWellFormed, frameOfInstr]
    | some k =>
      obtain rfl := eq_commandCode_of_commandOfCode hk
      cases k with
      | writeItem => exact writeItemRow_spec rest extra
      | takeError => exact takeErrorRow_spec rest extra
      | _ => exact ⟨rfl, rfl⟩

/-! ### The frame of a row -/

/-- R149: the item field of an item's frame names the item. -/
theorem itemOfNumber_itemField (it : Item) :
    itemOfNumber (beNat [BitVec.ofNat 8 (itemNumber it / 256), BitVec.ofNat 8 (itemNumber it)]) = some it := by
  have hfield : beNat (beBytes 2 (itemNumber it)) = itemNumber it := beNat_beBytes ((itemNumber_le it).trans_lt (by decide))
  exact (congrArg itemOfNumber hfield).trans (itemOfNumber_itemNumber it)

/-- R151: a frame without a command byte, or whose command byte names no command but NOP, belongs to the NOP row. -/
theorem instrOfFrame_of_nopFrame {f : Frame} (h : nopFrameWellFormed f = true) : instrOfFrame f = .nop f := by
  obtain ⟨bytes, extra⟩ := f
  cases bytes with
  | nil => rfl
  | cons b rest =>
    cases hk : commandOfCode b with
    | none => simp [instrOfFrame, hk]
    | some k =>
      obtain rfl : k = .nop := by simpa [nopFrameWellFormed, hk] using h
      simp [instrOfFrame, hk]

/-- R153: a WRITE ITEM frame that names no item which can be written belongs to the WRITE_ITEM row. -/
theorem writeItemRow_of_wellFormed {t : FrameTail} (h : writeItemWellFormed t = true) :
    writeItemRow t.bytes t.extra = .writeItem t := by
  obtain ⟨bytes, extra⟩ := t
  rcases bytes with _ | ⟨hi, _ | ⟨lo, rest⟩⟩
  · rfl
  · rfl
  cases hitem : itemOfNumber (beNat [hi, lo]) with
  | none => simp [writeItemRow, hitem]
  | some it =>
    cases it with
    | window w => simp [writeItemWellFormed, itemFieldOfTail, hitem] at h
    | timer k => simp [writeItemWellFormed, itemFieldOfTail, hitem] at h
    | stream i => simp [writeItemWellFormed, itemFieldOfTail, hitem] at h
    | _ => simp [writeItemRow, hitem]

/-- R158: a TAKE ERROR frame with another form selector than 0001 Hex belongs to the record form's row. -/
theorem takeErrorRow_of_wellFormed {t : FrameTail} (h : takeErrorRecordWellFormed t = true) :
    takeErrorRow t.bytes t.extra = .takeErrorRecordForm t := by
  obtain ⟨bytes, extra⟩ := t
  rcases bytes with _ | ⟨hi, _ | ⟨lo, rest⟩⟩
  · rfl
  · rfl
  have hform : beNat [hi, lo] ≠ 1 := by simpa [takeErrorRecordWellFormed, itemFieldOfTail] using h
  exact if_neg hform

/-- Table 9-3: a well-formed command is the row of its frame. -/
theorem instrOfFrame_of_wellFormed {c : Instr} {f : Frame} (hwf : c.WellFormed = true) (hf : frameOfInstr c = some f) :
    instrOfFrame f = c := by
  have hitemRow (it : Item) (t : FrameTail) :
      instrOfFrame (itemFrame .writeItem (itemNumber it) t) = writeItemRow (beBytes 2 (itemNumber it) ++ t.bytes) t.extra := rfl
  cases c with
  | nop => cases hf; exact instrOfFrame_of_nopFrame hwf
  | writeItem => cases hf; exact writeItemRow_of_wellFormed hwf
  | writeItemWindow w => cases hf; simp [hitemRow, writeItemRow, beBytes, itemOfNumber_itemField]
  | writeItemTimer k => cases hf; simp [hitemRow, writeItemRow, beBytes, itemOfNumber_itemField]
  | writeItemOrderMode i => cases hf; simp [hitemRow, writeItemRow, beBytes, itemOfNumber_itemField]
  | takeErrorRecordForm => cases hf; exact takeErrorRow_of_wellFormed hwf
  | takeErrorLostCountForm =>
    cases hf
    simp [instrOfFrame, itemFrame, Machine.commandOfCode_commandCode, takeErrorRow, beBytes, beNat]
  | readItem | start | stop | clear | hold | unhold | clearFault | takeNotice | freeLapsed => cases hf; rfl
  | _ => cases hf

/-- Table 9-4: the frame of a row begins with the bytes that the row fixes. -/
theorem rowBytes_isPrefix (c : Instr) : Laws.FrameLead.Statement c := by
  cases c with
  | nop => exact Laws.FrameLead.nop _
  | readItem => exact Laws.FrameLead.readItem _
  | writeItem => exact Laws.FrameLead.writeItem _
  | writeItemWindow => exact Laws.FrameLead.writeItemWindow _ _
  | writeItemTimer => exact Laws.FrameLead.writeItemTimer _ _
  | writeItemOrderMode => exact Laws.FrameLead.writeItemOrderMode _ _
  | start => exact Laws.FrameLead.start _
  | stop => exact Laws.FrameLead.stop _
  | clear => exact Laws.FrameLead.clear _
  | hold => exact Laws.FrameLead.hold _
  | unhold => exact Laws.FrameLead.unhold _
  | clearFault => exact Laws.FrameLead.clearFault _
  | takeNotice => exact Laws.FrameLead.takeNotice _
  | takeErrorRecordForm => exact Laws.FrameLead.takeErrorRecordForm _
  | takeErrorLostCountForm => exact Laws.FrameLead.takeErrorLostCountForm _
  | freeLapsed => exact Laws.FrameLead.freeLapsed _
  | _ =>
    intro _ hf
    cases hf

/-- Settles O52: a frame is that of its row, a well-formed row that of its frame, and the bytes that rows fix are proved row by row. -/
theorem framesAndRowsAgree : Obligations.FramesAndRowsAgree :=
  ⟨instrOfFrame_spec, fun _ _ => instrOfFrame_of_wellFormed, rowBytes_isPrefix⟩

end Sys2Proof

/-! ## The item commands: READ ITEM by the item map, and the WRITE ITEM to a timer (table 9-4, R149 to R157). -/

namespace Sys2Proof.Machine

/-! ### The WRITE ITEM to a timer -/

/-- R149: the number of two bytes. -/
theorem beNat_pair (hi lo : Byte) : beNat [hi, lo] = hi.toNat * 256 + lo.toNat := by
  simp [beNat]

section
variable (k : TimerItem) {data : List Byte} (s : State)

theorem writeTimer_of_length (h : data.length ≠ 2) : writeTimer k data s = (s, bareReply .frameError) :=
  if_pos h

theorem writeTimer_of_inRange (hlen : data.length = 2) (h : timerInRange k (beNat data) = true) :
    writeTimer k data s = (s.setTimers (setTimerValue s.timers k (beNat data)), bareReply .ok) := by
  simp [writeTimer, hlen, h]

theorem writeTimer_of_not_inRange (hlen : data.length = 2) (h : timerInRange k (beNat data) ≠ true) :
    writeTimer k data s = (s, bareReply .badValue) := by
  simp [writeTimer, hlen, h]

end

/-- R150: the end of a WRITE_ITEM_TIMER frame on a ready port is the write of the timer item, and its reply. -/
theorem exec_writeItemTimer {s : State} (k : TimerItem) {data : List Byte} (ready : portReady s) (h : data.length ≤ 12) :
    let c : Instr := .writeItemTimer k (framedData data)
    let done := writeTimer k data (afterCsRise s s c)
    exec c s = .next (done.1.setReply done.2) :=
  exec_of_parseFrame ready rfl (parseFrame_writeItemFrame _ data h)

/-- Settles O45: on a ready port the command is `writeTimer`, whose branches are the three clauses. -/
theorem timerWriteTakesValuesInRange : Obligations.TimerWriteTakesValuesInRange := by
  intro s hi lo data k ready hlen c v inRange
  have hexec := exec_writeItemTimer k (data := [hi, lo]) ready (by simp)
  have hvalue : beNat [hi, lo] = v := beNat_pair hi lo
  have hrange : timerInRange k (beNat [hi, lo]) = true ↔ inRange := by
    rw [hvalue]
    cases k <;> simp [timerInRange, inRange]
  refine ⟨fun h => ?_, fun h => ?_, fun hne => ?_⟩
  · rw [hexec, writeTimer_of_inRange k _ rfl (hrange.mpr h), hvalue]
    cases k <;> rfl
  · rw [hexec, writeTimer_of_not_inRange k _ rfl (mt hrange.mp h)]
    rfl
  · rw [exec_writeItemTimer k ready hlen, writeTimer_of_length k _ hne]
    rfl

/-! ### NOP, READ ITEM and the WRITE_ITEM row -/

section
variable {s : State} {hi lo : Byte} {data : List Byte}

theorem readItemAction_of_some {r : FrameRequest} {it : Item} (h : itemOfNumber r.item = some it) :
    readItemAction r s = (s, ⟨.ok, itemValue s it⟩) := by
  rw [readItemAction, h]

theorem readItemAction_of_none {r : FrameRequest} (h : itemOfNumber r.item = none) :
    readItemAction r s = (s, bareReply .badItem) := by
  rw [readItemAction, h]

/-- R152: READ ITEM of a number that names an item, on a ready port. -/
theorem exec_readItem_of_some (ready : portReady s) (hlen : data.length ≤ 12) {it : Item}
    (h : itemOfNumber (beNat [hi, lo]) = some it) :
    exec (.readItem (framed hi lo data)) s = .next (afterFrame s s (.readItem (framed hi lo data)) .ok (itemValue s it)) :=
  exec_commandFrame_reply (k := .readItem) ready hlen (by simp [fixedDataLength]) rfl (readItemAction_of_some h)

/-- R150: READ ITEM of any other number. -/
theorem exec_readItem_of_none (ready : portReady s) (hlen : data.length ≤ 12) (h : itemOfNumber (beNat [hi, lo]) = none) :
    exec (.readItem (framed hi lo data)) s = .next (afterFrame s s (.readItem (framed hi lo data)) .badItem []) :=
  exec_commandFrame (k := .readItem) ready hlen (by simp [fixedDataLength]) rfl (readItemAction_of_none h)

/-- R153: the WRITE_ITEM row's own frames name no item that can be written. -/
theorem writeItemAction_eq_badItem {r : FrameRequest} {t : FrameTail} (hwf : writeItemWellFormed t = true)
    (hitem : itemFieldOfTail t.bytes = some r.item) : writeItemAction r s = (s, bareReply .badItem) := by
  unfold writeItemWellFormed at hwf
  rw [hitem] at hwf
  unfold writeItemAction
  cases hnumber : itemOfNumber r.item with
  | none => rfl
  | some it =>
    cases it with
    | timer k => simp [hnumber] at hwf
    | window w => simp [hnumber] at hwf
    | stream i => simp [hnumber] at hwf
    | _ => rfl

end

/-- Settles O42: on a ready port the commands are their actions, by the item that the number names. -/
theorem itemCommandsAnswerByTheItemMap : Obligations.ItemCommandsAnswerByTheItemMap := by
  intro s hi lo data ready hlen
  refine ⟨fun f hf => ?_, fun it => exec_readItem_of_some ready hlen, exec_readItem_of_none ready hlen, fun hwf => ?_⟩
  · subst hf
    exact exec_commandFrame (k := .nop) ready hlen (by simp [fixedDataLength]) rfl rfl
  · exact exec_commandFrame (k := .writeItem) ready hlen (by simp [fixedDataLength]) rfl (writeItemAction_eq_badItem hwf rfl)

/-! ### The values of the items -/

theorem beBytes_two (n : Nat) : beBytes 2 n = [BitVec.ofNat 8 (n / 2 ^ 8), BitVec.ofNat 8 n] := rfl

theorem beBytes_four (n : Nat) :
    beBytes 4 n = [BitVec.ofNat 8 (n / 2 ^ 24), BitVec.ofNat 8 (n / 2 ^ 16), BitVec.ofNat 8 (n / 2 ^ 8), BitVec.ofNat 8 n] := by
  simp [beBytes, Nat.div_div_eq_div_mul]

theorem tagCount_eq_length_filter (tags : Vector Tag 16) (p : Tag → Bool) :
    tagCount tags p = ((List.finRange 16).filter fun t => p tags[t]).length :=
  List.countP_eq_length_filter ..

/-- R69: every tag is FREE, BUSY or LAPSED. -/
theorem tagCounts_sum (tags : Vector Tag 16) :
    tagCount tags Tag.isFree + tagCount tags Tag.isBusy + tagCount tags Tag.isLapsed = 16 := by
  have hclass (tag : Tag) :
      (if tag.isFree then 1 else 0) + (if tag.isBusy then 1 else 0) + (if tag.isLapsed then 1 else 0) = 1 := by
    cases tag <;> rfl
  have hsum (l : List TagNo) :
      (l.countP fun t => tags[t].isFree) + (l.countP fun t => tags[t].isBusy) + (l.countP fun t => tags[t].isLapsed) =
        l.length := by
    induction l with
    | nil => rfl
    | cons t l ih =>
      have hone := hclass tags[t]
      simp only [List.countP_cons, List.length_cons]
      omega
  exact hsum allTags

/-- R131: the drained byte. -/
theorem boolCode_drained (s : State) (i : StreamNo) :
    boolCode (drained s i) = if ∃ e ∈ s.pq, e.stream = i then 0 else 1 := by
  by_cases h : ∃ e ∈ s.pq, e.stream = i <;> simp_all [drained, boolCode]

theorem orderModeCode_eq (m : OrderMode) : orderModeCode m = if m = .strict then 1 else 0 := by
  cases m <;> rfl

/-- Table 9-6: the bytes of a window record, with its pages spelled out. -/
theorem windowBytes_eq (w : Window) :
    windowBytes w =
      ([if w.enabled then 1 else 0, if w.notify then 1 else 0] : List Byte) ++
        [BitVec.ofNat 8 (w.base.toNat / 2 ^ 24), BitVec.ofNat 8 (w.base.toNat / 2 ^ 16), BitVec.ofNat 8 (w.base.toNat / 2 ^ 8),
          BitVec.ofNat 8 w.base.toNat] ++
        [BitVec.ofNat 8 (w.limit.toNat / 2 ^ 24), BitVec.ofNat 8 (w.limit.toNat / 2 ^ 16), BitVec.ofNat 8 (w.limit.toNat / 2 ^ 8),
          BitVec.ofNat 8 w.limit.toNat] ++
        [writeTreatmentCode w.writeTreatment, readTreatmentCode w.readTreatment] := by
  rw [windowBytes, beBytes_four, beBytes_four]
  rfl

/-- Table 8-2: the nineteen counters, in the table's order. -/
def allCounters : List Counter :=
  [.writesAccepted, .writesMerged, .entriesRetired, .entriesFailed, .flagsReleased, .flagsVoided, .faultMarks, .readsDelivered,
    .readsUnclaimed, .lingerHits, .memTimeouts, .aborts, .retriesNotOnline, .retriesHeld, .retriesQueueFull, .retriesParked,
    .retriesNotReady, .retriesLineBusy, .retriesTableFull]

/-- Table 8-2: a counter's index is its place. -/
theorem index_of_allCounters_getElem? {k : Nat} {c : Counter} (h : allCounters[k]? = some c) : c.index.val = k := by
  have hplace : ∀ j : Fin 19, (allCounters[j]).index = j := by decide
  obtain ⟨hk, rfl⟩ := List.getElem?_eq_some_iff.mp h
  exact congrArg Fin.val (hplace ⟨k, hk⟩)

/-- Settles O43: each number names its item, whose value is spelled in the lemmas above. -/
theorem itemsShowTheStateTheyName : Obligations.ItemsShowTheStateTheyName := by
  intro s hi lo data ready hlen c reads byte two four tagsThat
  have hreads {n : Nat} {value : List Byte} (it : Item) (hnumber : itemNumber it = n) (hvalue : itemValue s it = value) :
      reads n value := by
    rintro rfl
    subst hvalue
    refine exec_readItem_of_some ready hlen ?_
    rw [beNat_pair, ← hnumber, itemOfNumber_itemNumber]
  have hcount (p : Tag → Bool) : tagCount s.tags p = tagsThat p := tagCount_eq_length_filter s.tags p
  refine ⟨hreads .id rfl rfl, hreads .state rfl ?_, hreads .pqCount rfl rfl, hreads .prtCount rfl rfl, hreads .tagCounts rfl ?_, ?_,
    hreads .nqCount rfl rfl, hreads .noticesLost rfl rfl, hreads .elCount rfl rfl, hreads .errorsLost rfl rfl,
    hreads (.timer .combineAge) rfl rfl, hreads (.timer .claimTime) rfl rfl, hreads (.timer .lingerTime) rfl rfl,
    hreads (.timer .memTimeout) rfl rfl, fun w => hreads (.window w) rfl ?_, fun w => windowOfBytes_windowBytes,
    fun i => hreads (.stream i) rfl ?_, fun k counter h => ?_, fun n hn hunknown => ?_⟩
  · rw [itemValue]
    cases s.opState <;> rfl
  · rw [itemValue, hcount, hcount, hcount]
  · rw [← hcount, ← hcount, ← hcount]
    exact tagCounts_sum s.tags
  · refine (windowBytes_eq s.windows[w]).trans ?_
    cases s.windows[w].writeTreatment <;> cases s.windows[w].readTreatment <;> rfl
  · rw [itemValue, orderModeCode_eq, boolCode_drained]
    rfl
  · have hplace := index_of_allCounters_getElem? h
    refine hreads (.counter counter.index) ?_ (beBytes_four _)
    rw [itemNumber, hplace]
  · refine exec_readItem_of_none ready hlen (Option.eq_none_iff_forall_ne_some.mpr fun it hit => ?_)
    have hnumber := itemNumber_of_itemOfNumber hit
    rw [beNat_pair, hn] at hnumber
    cases it with
    | timer k => cases k <;> simp only [itemNumber] at hnumber <;> omega
    | _ => simp only [itemNumber] at hnumber; omega

end Sys2Proof.Machine

/-! ## What the operations on the tables leave of the pins, the management port and the events that wait (R148, R151, R162). -/

namespace Sys2Proof.Machine

/-- The state outside the tables: the pins, the management port, what waits for REFCLK, and the board's inputs. The tables, the timebase,
the answers and the requests stand at their reset values. -/
def State.outside (s : State) : State :=
  { State.reset with
    por := s.por, drstn := s.drstn, ready := s.ready, refclkStopped := s.refclkStopped, busReset := s.busReset, reply := s.reply,
    frameInProgress := s.frameInProgress, held := s.held, portWaiting := s.portWaiting, cycleInputs := s.cycleInputs,
    misos := s.misos, pending := s.pending }

/-! ### The fields outside the tables -/

section
variable (u : State)

@[simp] theorem State.outside_por : u.outside.por = u.por := rfl
@[simp] theorem State.outside_refclkStopped : u.outside.refclkStopped = u.refclkStopped := rfl
@[simp] theorem State.outside_reply : u.outside.reply = u.reply := rfl
@[simp] theorem State.outside_frameInProgress : u.outside.frameInProgress = u.frameInProgress := rfl
@[simp] theorem State.outside_held : u.outside.held = u.held := rfl
@[simp] theorem State.outside_portWaiting : u.outside.portWaiting = u.portWaiting := rfl
@[simp] theorem State.outside_cycleInputs : u.outside.cycleInputs = u.cycleInputs := rfl
@[simp] theorem State.outside_misos : u.outside.misos = u.misos := rfl

end

section
variable {u v : State} (h : u.outside = v)
include h

theorem por_of_outside : u.por = v.por := h ▸ rfl
theorem refclkStopped_of_outside : u.refclkStopped = v.refclkStopped := h ▸ rfl
theorem reply_of_outside : u.reply = v.reply := h ▸ rfl
theorem frameInProgress_of_outside : u.frameInProgress = v.frameInProgress := h ▸ rfl
theorem held_of_outside : u.held = v.held := h ▸ rfl
theorem portWaiting_of_outside : u.portWaiting = v.portWaiting := h ▸ rfl
theorem cycleInputs_of_outside : u.cycleInputs = v.cycleInputs := h ▸ rfl
theorem misos_of_outside : u.misos = v.misos := h ▸ rfl

end

section
variable (u : State)

theorem outside_foldl {α : Type} {f : State → α → State} (h : ∀ v a, (f v a).outside = v.outside) (l : List α) :
    (l.foldl f u).outside = u.outside := by
  induction l generalizing u with
  | nil => rfl
  | cons a l ih => exact (ih _).trans (h u a)

/-! ### Updates of the tables -/

@[simp] theorem outside_setOpState (x : OpState) : (u.setOpState x).outside = u.outside := rfl
@[simp] theorem outside_setPq (x : List PqEntry) : (u.setPq x).outside = u.outside := rfl
@[simp] theorem outside_setPrt (x : List PrtEntry) : (u.setPrt x).outside = u.outside := rfl
@[simp] theorem outside_setTags (x : Vector Tag 16) : (u.setTags x).outside = u.outside := rfl
@[simp] theorem outside_setLastGranted (x : LinkClass) : (u.setLastGranted x).outside = u.outside := rfl
@[simp] theorem outside_setWindows (x : Vector Window 16) : (u.setWindows x).outside = u.outside := rfl
@[simp] theorem outside_setStreams (x : Vector StreamRecord 8) : (u.setStreams x).outside = u.outside := rfl
@[simp] theorem outside_setNq (x : List Notice) : (u.setNq x).outside = u.outside := rfl
@[simp] theorem outside_setNoticesLost (x : Nat) : (u.setNoticesLost x).outside = u.outside := rfl
@[simp] theorem outside_setEl (x : List ErrorRecord) : (u.setEl x).outside = u.outside := rfl
@[simp] theorem outside_setErrorsLost (x : Nat) : (u.setErrorsLost x).outside = u.outside := rfl
@[simp] theorem outside_setCounters (x : Vector Nat 19) : (u.setCounters x).outside = u.outside := rfl
@[simp] theorem outside_setTimers (x : TimerItems) : (u.setTimers x).outside = u.outside := rfl
@[simp] theorem outside_setTbCount (x : Fin 50) : (u.setTbCount x).outside = u.outside := rfl
@[simp] theorem outside_setRequests (x : List LinkRequest) : (u.setRequests x).outside = u.outside := rfl
@[simp] theorem outside_setNextId (x : Nat) : (u.setNextId x).outside = u.outside := rfl

/-! ### Counts, reports, answers, streams and seals -/

@[simp] theorem outside_bump (c : Counter) : (bump c u).outside = u.outside := rfl
@[simp] theorem outside_answerAccept : (answerAccept u).outside = u.outside := rfl
@[simp] theorem outside_answerRetry (r : RetryReason) : (answerRetry r u).outside = u.outside := rfl
@[simp] theorem outside_answerData (bytes : List Byte) : (answerData bytes u).outside = u.outside := rfl
@[simp] theorem outside_answerAbort : (answerAbort u).outside = u.outside := rfl

@[simp] theorem outside_offerError (r : ErrorRecord) : (offerError r u).outside = u.outside := by
  rw [offerError_frame]
  rfl

@[simp] theorem outside_noticeOfLeaving (e : PqEntry) (o : ReleaseOutcome) : (noticeOfLeaving e o u).outside = u.outside := by
  rw [noticeOfLeaving_frame]
  rfl

@[simp] theorem outside_mapStreams (f : StreamNo → StreamRecord → StreamRecord) : (mapStreams f u).outside = u.outside := rfl
@[simp] theorem outside_setStream (i : StreamNo) (r : StreamRecord) : (setStream i r u).outside = u.outside := rfl
@[simp] theorem outside_setOpenEntry (i : StreamNo) (ref : Option Nat) : (setOpenEntry i ref u).outside = u.outside := rfl
@[simp] theorem outside_sealWhere (cause : PqEntry → Bool) : (sealWhere cause u).outside = u.outside := rfl
@[simp] theorem outside_sealAll : (sealAll u).outside = u.outside := rfl

/-! ### The drain, the PRT and entries that leave -/

@[simp] theorem outside_checkDrain : (checkDrain u).outside = u.outside := by
  rw [checkDrain_frame]
  rfl

@[simp] theorem outside_freePrt (id : Nat) : (freePrt id u).outside = u.outside :=
  outside_checkDrain _

@[simp] theorem outside_parkFetched (id : Nat) (r : Fetched) : (parkFetched id r u).outside = u.outside := rfl
@[simp] theorem outside_writeMeetsPrt (l : Line) : (writeMeetsPrt l u).outside = u.outside := rfl
@[simp] theorem outside_leavePq (id : Nat) : (leavePq id u).outside = u.outside := rfl
@[simp] theorem outside_markFault (i : StreamNo) : (markFault i u).outside = u.outside := rfl

@[simp] theorem outside_voidPass : (voidPass u).outside = u.outside := by
  rw [voidPass_eq_fields]
  rfl

@[simp] theorem outside_afterLeaving : (afterLeaving u).outside = u.outside :=
  (outside_checkDrain _).trans (outside_voidPass u)

@[simp] theorem outside_countReleased (e : PqEntry) : (countReleased e u).outside = u.outside := by
  unfold countReleased
  split <;> rfl

@[simp] theorem outside_retireEntry (e : PqEntry) : (retireEntry e u).outside = u.outside := by
  simp [retireEntry]

@[simp] theorem outside_failEntry (e : PqEntry) : (failEntry e u).outside = u.outside := by
  simp [failEntry]

/-! ### Responses and grants -/

@[simp] theorem outside_setTag (t : TagNo) (r : Tag) : (setTag t r u).outside = u.outside := rfl

@[simp] theorem outside_lateResponse (t : TagNo) : (lateResponse t u).outside = u.outside :=
  outside_offerError ..

@[simp] theorem outside_unexpectedResponse (t : TagNo) : (unexpectedResponse t u).outside = u.outside :=
  outside_offerError ..

theorem outside_endWrite (t : TagNo) (id : Nat) (st : ResponseStatus) : (endWrite t id st u).outside = u.outside := by
  unfold endWrite
  split <;> simp

theorem outside_endFetch (t : TagNo) (id : Nat) (r : ReadResult) : (endFetch t id r u).outside = u.outside := by
  unfold endFetch
  split <;> simp

theorem outside_takeWriteResponse (t : TagNo) (st : ResponseStatus) : (takeWriteResponse t st u).outside = u.outside := by
  unfold takeWriteResponse
  split <;> simp [outside_endWrite]

theorem outside_takeReadResponse (t : TagNo) (r : ReadResult) : (takeReadResponse t r u).outside = u.outside := by
  unfold takeReadResponse
  split <;> simp [outside_endFetch]

@[simp] theorem outside_takeDueGrants : (takeDueGrants u).outside = u.outside := by
  obtain ⟨tags, q, p, g, r, h⟩ := takeDueGrants_frame u
  simp [h]

/-! ### Timers -/

theorem outside_expireClaim (i : StreamNo) (l : Line) : (expireClaim i l u).outside = u.outside := by
  rcases expireClaim_cases i l u with h | ⟨p, -, -, -, -, h⟩ <;> simp [h]

theorem outside_expireLinger (i : StreamNo) (l : Line) : (expireLinger i l u).outside = u.outside := by
  rcases expireLinger_cases i l u with h | ⟨p, -, -, -, -, h⟩ <;> simp [h]

@[simp] theorem outside_recordExhausted : (recordExhausted u).outside = u.outside := by
  unfold recordExhausted
  split <;> simp

@[simp] theorem outside_tellOwnerLapsed (t : TagNo) (o : Owner) : (tellOwnerLapsed t o u).outside = u.outside := by
  unfold tellOwnerLapsed
  split
  · split <;> simp
  · split <;> simp
  · rfl

theorem outside_expireMemory (t : TagNo) : (expireMemory t u).outside = u.outside := by
  rcases expireMemory_cases t u with h | ⟨o, timer, -, -, h⟩ <;> simp [h]

theorem outside_takeDueExpiries : (takeDueExpiries u).outside = u.outside := by
  unfold takeDueExpiries
  simp only [outside_foldl _ fun v t => outside_expireMemory v t, outside_foldl _ fun v i => outside_sealWhere v _,
    outside_foldl _ fun v (p : PrtEntry) => outside_expireClaim v p.stream p.line,
    outside_foldl _ fun v (p : PrtEntry) => outside_expireLinger v p.stream p.line, expireCombineAge]

@[simp] theorem outside_takeDue : (takeDue u).outside = u.outside :=
  (outside_takeDueGrants _).trans (outside_takeDueExpiries u)

@[simp] theorem outside_advanceTimers : (advanceTimers u).outside = u.outside := rfl

/-! ### Transactions -/

variable (i : StreamNo) (l : Line) (bytes : ByteSet)

@[simp] theorem outside_mergeInto (e : PqEntry) : (mergeInto e bytes u).outside = u.outside := by
  unfold mergeInto
  dsimp only
  split <;> rfl

@[simp] theorem outside_appendFor (tr : WriteTreatment) (w : WindowNo) (notify : Bool) :
    (appendFor tr i l bytes w notify u).outside = u.outside := by
  cases tr with
  | merge =>
    dsimp only [appendFor, appendMerge]
    split <;> rfl
  | _ => rfl

theorem outside_postWrite (tr : WriteTreatment) (w : WindowNo) (notify : Bool) :
    (postWrite tr i l bytes w notify u).outside = u.outside := by
  unfold postWrite
  split
  · simp
  · unfold postNewEntry
    split <;> simp [sealsBeforeAppend, sealOthersOnLine, sealStreamEntry]

theorem outside_checkStateAndHold {work : State → State} (h : (work u).outside = u.outside) :
    (checkStateAndHold i work u).outside = u.outside := by
  unfold checkStateAndHold
  split
  · rfl
  · split
    · rfl
    · exact h

theorem outside_writeTransaction (a : Address) (data : List Byte) : (writeTransaction i a data u).outside = u.outside := by
  unfold writeTransaction
  split
  · simp
  · split
    · simp
    · split
      · simp
      · exact outside_checkStateAndHold u i (outside_postWrite ..)

theorem outside_serveMatch (p : PrtEntry) (o : Offset) (n : Nat) : (serveMatch p o n u).outside = u.outside := by
  unfold serveMatch
  split
  · rfl
  · rfl
  · simp
  · unfold claimParked
    split <;> simp [updatePrt]
  · rfl

@[simp] theorem outside_parkRead (rt : ReadTreatment) (o : Offset) (n : Nat) : (parkRead rt i l o n u).outside = u.outside := by
  simp [parkRead]

theorem outside_parkRequest (rt : ReadTreatment) (o : Offset) (n : Nat) : (parkRequest rt i l o n u).outside = u.outside := by
  unfold parkRequest
  split
  · simp
  · split
    · simp
    · split <;> simp

theorem outside_readTransaction (a : Address) (n : Nat) : (readTransaction i a n u).outside = u.outside := by
  unfold readTransaction
  split
  · simp
  · split
    · simp
    · split
      · simp
      · split
        · exact outside_serveMatch ..
        · exact outside_checkStateAndHold u i (outside_parkRequest ..)

/-! ### Rows of the management port -/

theorem outside_writeTimer (k : TimerItem) (data : List Byte) : (writeTimer k data u).1.outside = u.outside := by
  unfold writeTimer
  split
  · rfl
  · split <;> rfl

theorem outside_writeWindow (w : WindowNo) (data : List Byte) : (writeWindow w data u).1.outside = u.outside := by
  unfold writeWindow
  split
  · rfl
  · split <;> rfl

theorem outside_writeOrderMode (data : List Byte) : (writeOrderMode i data u).1.outside = u.outside := by
  unfold writeOrderMode
  split
  · split
    · rfl
    · split <;> rfl
  · rfl

theorem outside_writeItemAction (r : FrameRequest) : (writeItemAction r u).1.outside = u.outside := by
  unfold writeItemAction
  split
  · exact outside_writeTimer ..
  · exact outside_writeWindow ..
  · exact outside_writeOrderMode ..
  all_goals rfl

/-- R149, R150: an action works on its own block. -/
theorem outside_rowAction (c : Instr) (r : FrameRequest) : (rowAction c r u).1.outside = u.outside := by
  cases c with
  | writeItem => exact outside_writeItemAction ..
  | writeItemWindow => exact outside_writeWindow ..
  | writeItemTimer => exact outside_writeTimer ..
  | writeItemOrderMode => exact outside_writeOrderMode ..
  | readItem =>
    dsimp only [rowAction, readItemAction]
    split <;> rfl
  | start =>
    dsimp only [rowAction, startAction]
    split <;> rfl
  | stop =>
    dsimp only [rowAction, stopAction]
    split <;> simp
  | clear =>
    dsimp only [rowAction, clearAction]
    split <;> simp [clearAll]
  | takeNotice =>
    dsimp only [rowAction, takeNoticeAction]
    split <;> rfl
  | takeErrorRecordForm =>
    dsimp only [rowAction, takeErrorAction, takeRecord]
    split
    · split <;> rfl
    · split <;> rfl
  | _ => rfl

/-- R149, R150: a frame that is taken moves the reply buffer, and nothing else outside the tables. -/
theorem outside_takeFrame (c : Instr) (f : Frame) : ∃ r, (takeFrame c f u).outside = u.outside.setReply r := by
  rcases takeFrame_cases c f u with ⟨-, h⟩ | ⟨r, -, h⟩ <;> rw [h]
  · exact ⟨_, rfl⟩
  · refine ⟨(rowAction c r u).2, ?_⟩
    rw [← outside_rowAction u c r]
    rfl

end

end Sys2Proof.Machine

/-! ## The end of a frame: its form, and what MISO carries during it (R148, R149, R151, R164). -/

namespace Sys2Proof.Machine

/-! ### Frames that are not executed -/

/-- R149: what the form of a well-framed request is. -/
theorem form_of_parseFrame {f : Frame} {r : FrameRequest} (h : parseFrame f = some r) :
    f.extra = 0 ∧ ∃ b hi lo len, f.bytes = b :: hi :: lo :: len :: r.data ∧ commandOfCode b = some r.command ∧ len.toNat ≤ 12 ∧
      r.data.length = len.toNat ∧ ∀ n ∈ fixedDataLength r.command, n = len.toNat := by
  unfold parseFrame at h
  split at h
  · rename_i b hi lo len data hbytes
    split at h
    · cases h
    · rename_i k hk
      split_ifs at h with hextra hmax hlen hfixed
      cases h
      simp only [Config.maxFrameData] at hmax
      refine ⟨not_not.mp hextra, b, hi, lo, len, hbytes, hk, by omega, not_not.mp hlen, fun n hn => ?_⟩
      rw [Option.mem_def.mp hn] at hfixed
      simpa using hfixed
  · cases h

/-- R149: a frame of which one of the five checks fails. -/
theorem parseFrame_eq_none {f : Frame}
    (h : f.extra ≠ 0 ∨ f.bytes.length < 4 ∨ (∃ b hi lo len data, f.bytes = b :: hi :: lo :: len :: data ∧
      (12 < len.toNat ∨ data.length ≠ len.toNat ∨ commandOfCode b = none ∨
        ((commandOfCode b = some .hold ∨ commandOfCode b = some .unhold ∨ commandOfCode b = some .clearFault) ∧ len ≠ 1)))) :
    parseFrame f = none := by
  refine Option.eq_none_iff_forall_ne_some.mpr fun r hr => ?_
  obtain ⟨hextra, b, hi, lo, len, hbytes, hk, hmax, hlen, hfixed⟩ := form_of_parseFrame hr
  rw [hextra, hbytes] at h
  rcases h with h | h | ⟨b', hi', lo', len', data', hsame, hform⟩
  · exact h rfl
  · simp only [List.length_cons] at h
    omega
  · simp only [List.cons.injEq] at hsame
    obtain ⟨rfl, -, -, rfl, rfl⟩ := hsame
    rw [hk] at hform
    rcases hform with h | h | h | ⟨hset, hne⟩
    · omega
    · exact h hlen
    · cases h
    · refine hne (BitVec.eq_of_toNat_eq (hfixed 1 ?_).symm)
      rcases hset with h | h | h <;> rw [Option.some.inj h] <;> rfl

theorem FrameProgress.spoiled_iff (f : FrameProgress) : f.spoiled = true ↔ ∃ r n, f = .underReset r n := by
  cases f <;> simp [FrameProgress.spoiled]

/-- R164: while REFCLK runs, the end of a spoiled frame leaves FRAME_ERROR. -/
theorem exec_of_spoiled {s : State} {c : Instr} {f : Frame} (hf : frameOfInstr c = some f) (hpor : s.por = false)
    (hspoiled : s.frameInProgress.spoiled = true) (hrun : s.refclkStopped = false) :
    exec c s = .next (takeSpoiledFrame (frameEnded f (s.setMisos []))) := by
  have hframe : ∃ r n, (s.setMisos []).frameInProgress = .underReset r n := (FrameProgress.spoiled_iff _).mp hspoiled
  rw [exec_eq_endFrame hf, endFrame_eq c f s hf]
  rcases arriveAtManagement_cases c f (s.setMisos []) with ⟨h, -⟩ | ⟨-, -, h⟩ | ⟨-, h, -⟩ | ⟨-, h, -⟩
  · exact absurd (hpor.symm.trans h) (by decide)
  · rcases takeFrameEnd_cases c f (s.setMisos []) with ⟨-, htake⟩ | ⟨hne, -⟩
    · rw [h, htake]
    · obtain ⟨r, n, hrn⟩ := hframe
      exact absurd hrn (hne r n)
  · exact absurd (hrun.symm.trans h) (by decide)
  · exact absurd (hrun.symm.trans h) (by decide)

/-- Settles O39: a frame whose form fails is taken for FRAME_ERROR, and so is one that PORn spoiled. -/
theorem brokenFramesExecuteNothing : Obligations.BrokenFramesExecuteNothing := by
  intro c f s hf
  refine ⟨fun ready hbroken => ?_, fun hpor hspoiled hrun => ⟨_, exec_of_spoiled hf hpor hspoiled hrun, rfl⟩⟩
  rw [exec_eq_endFrame hf, endFrame_of_portReady ready hf, takeFrame, parseFrame_eq_none hbroken]
  rfl

/-! ### What MISO carries -/

/-- R151: the status, the length, the data, then 00 Hex. -/
theorem sentByte_eq (r : Reply) (k : Nat) :
    sentByte r k =
      if k = 0 then statusCode r.status
      else if k = 1 then BitVec.ofNat 8 r.data.length
      else if k - 2 < r.data.length then r.data.getD (k - 2) 0
      else 0 := by
  rcases k with _ | _ | k
  · rfl
  · rfl
  · have hpast (h : ¬k < r.data.length) : r.data[k]? = none := by simpa using h
    by_cases h : k < r.data.length <;> simp [sentByte, replyBytes, h]

section
variable (sent : Nat → Byte) (n m : Nat)

theorem shiftOut_bytes_length : (shiftOut sent n m).bytes.length = n := by simp [shiftOut]

theorem shiftOut_bits_length : (shiftOut sent n m).bits.length = m := by simp [shiftOut, leadingBits]

theorem shiftOut_bytes_getElem? {k : Nat} (h : k < n) : (shiftOut sent n m).bytes[k]? = some (sent k) := by
  simp [shiftOut, h]

theorem shiftOut_bits_getElem? {j : Nat} (h : j < m) : (shiftOut sent n m).bits[j]? = some ((sent n).getMsbD j) := by
  simp [shiftOut, leadingBits, h]

end

/-- Settles O40: on a ready port MISO is the shift-out of the reply that the statement spells, and the frame's execution leaves it. -/
theorem misoCarriesTheHeldReply : Obligations.MisoCarriesTheHeldReply := by
  intro c f s hf ready began sent
  have hbegan : replySent s = began := by
    unfold replySent began
    cases s.frameInProgress <;> rfl
  have hsent : sentByte began = sent := funext fun k => sentByte_eq began k
  have hmiso : (takeFrame c f (afterCsRise s s c)).misos = [shiftOut sent f.bytes.length f.extra.val] := by
    obtain ⟨r, hout⟩ := outside_takeFrame (afterCsRise s s c) c f
    have hsame : (takeFrame c f (afterCsRise s s c)).misos = misoDuring s c := misos_of_outside hout
    rw [hsame, misoDuring, hf, hbegan, hsent]
  refine ⟨_, _, ?_, hmiso, shiftOut_bytes_length .., shiftOut_bits_length .., fun k => shiftOut_bytes_getElem? _ _ _,
    fun k => shiftOut_bits_getElem? _ _ _⟩
  rw [exec_eq_endFrame hf, endFrame_of_portReady ready hf]

end Sys2Proof.Machine

/-! ## The frame in progress over a REFCLK cycle, over the assertion of PORn, and at its end after it (R148, R151, R162 to R164). -/

namespace Sys2Proof.Machine

/-! ### Edges and events that wait on the port -/

/-- R148, R163: a frame that begins, by the level of PORn. -/
theorem edges_of_frameStart (por : Bool) (held : Reply) (bits : List Bool) :
    (PortEdge.csFall :: bits.map PortEdge.sck).foldl (FrameProgress.edge por held) .csHigh =
      if por then .underReset held 0 else .receiving bits held := by
  cases por with
  | false => simpa [FrameProgress.edge] using FrameProgress.edges_receive false held held [] bits
  | true =>
    have hkeep : (bits.map PortEdge.sck).foldl (FrameProgress.edge true held) (.underReset held 0) = .underReset held 0 := by
      induction bits with
      | nil => rfl
      | cons b bits ih => exact ih
    exact hkeep

/-- R148: while CS is high SCK is not looked at. -/
theorem edges_of_csHigh (por : Bool) (held : Reply) (bits : List Bool) :
    (bits.map PortEdge.sck).foldl (FrameProgress.edge por held) .csHigh = .csHigh := by
  induction bits with
  | nil => rfl
  | cons b bits ih => exact ih

/-- R148: SCK cycles do not move CS. -/
theorem csLowAfter_append_fall (before : List PortEvent) (bits : List Bool) :
    csLowAfter (before ++ .edge .csFall :: bits.map fun b => PortEvent.edge (.sck b)) = true := by
  induction bits using List.reverseRecOn with
  | nil => simp [csLowAfter]
  | append_singleton bits b ih => simpa [csLowAfter] using ih

theorem csLowAfter_append_frameEnd (before : List PortEvent) (c : Instr) : csLowAfter (before ++ [.frameEnd c]) = false := by
  simp [csLowAfter]

/-! ### Events that are no frame -/

theorem frameOfInstr_isSome_iff (c : Instr) : (frameOfInstr c).isSome = true ↔ portOfInstr c = some .management := by
  cases c <;> simp [frameOfInstr, portOfInstr]

/-- R162: an event of the D-bus or the M-link leaves the management port. -/
theorem outside_takeEvent {h : HeldEvent} (hport : h.port ≠ some .management) (u : State) :
    (takeEvent h u).outside = u.outside := by
  unfold takeEvent
  split
  · exact absurd rfl hport
  · exact outside_writeTransaction ..
  · exact outside_readTransaction ..
  · exact outside_takeWriteResponse ..
  · exact outside_takeReadResponse ..
  · rename_i c _ _ _ _
    have hnone : frameOfInstr c = none := by
      rw [← Option.not_isSome_iff_eq_none, frameOfInstr_isSome_iff]
      exact hport
    rw [takeHeldFrame, hnone]

/-- R162: events of the D-bus and the M-link leave the management port, and are taken from the head of those held. -/
theorem outside_takeHeldUpTo {n : Nat} {u : State} (hports : ∀ h ∈ u.held.take n, h.port ≠ some .management) :
    (takeHeldUpTo n u).outside = u.outside.setHeld (u.held.drop n) := by
  induction n generalizing u with
  | zero => rfl
  | succ n ih =>
    unfold takeHeldUpTo
    rcases takeOldestHeld_cases u with ⟨hnil, hsame⟩ | ⟨h, rest, hheld, htake⟩
    · rw [hsame, takeHeldUpTo_nil n u hnil, hnil, List.drop_nil, ← hnil]
      rfl
    · rw [hheld, List.take_succ_cons] at hports
      have hout : (takeOldestHeld u).outside = u.outside.setHeld rest := by
        rw [htake, outside_takeDueGrants, outside_takeEvent (hports h List.mem_cons_self)]
        rfl
      have hrest : (takeOldestHeld u).held = rest := held_of_outside hout
      rw [ih fun x hx => hports x (List.mem_cons_of_mem _ (hrest ▸ hx)), hout, hrest, hheld]
      rfl

/-! ### A frame end that waits -/

/-- R148, R162: a held frame end moves the reply buffer, and then the port looks at what waits on it. -/
theorem takeEvent_of_management {h : HeldEvent} (hport : h.port = some .management) (u : State) :
    ∃ v r, takeEvent h u = resumePort u.portWaiting v ∧ v.outside = u.outside.setReply r := by
  unfold takeEvent
  split
  · exact ⟨_, _, rfl, rfl⟩
  · cases hport
  · cases hport
  · cases hport
  · cases hport
  · rename_i c _ _ _ _
    obtain ⟨f, hf⟩ := Option.isSome_iff_exists.mp ((frameOfInstr_isSome_iff c).mpr hport)
    obtain ⟨r, hr⟩ := outside_takeFrame u c f
    exact ⟨_, r, by rw [takeHeldFrame, hf], hr⟩

theorem resumePort_cycleInputs (events : List PortEvent) (u : State) : (resumePort events u).cycleInputs = u.cycleInputs := by
  induction events generalizing u with
  | nil => rfl
  | cons e rest ih =>
    cases e with
    | edge e => exact ih (portEdges [e] u)
    | frameEnd c =>
      unfold resumePort
      split
      · rcases holdFrameEnd_cases c _ u with ⟨-, h⟩ | ⟨-, h⟩ <;> rw [h] <;> rfl
      · exact ih u

theorem takeEvent_cycleInputs (h : HeldEvent) (u : State) : (takeEvent h u).cycleInputs = u.cycleInputs := by
  by_cases hport : h.port = some .management
  · obtain ⟨v, r, hv, hout⟩ := takeEvent_of_management hport u
    simpa [hv, resumePort_cycleInputs] using cycleInputs_of_outside hout
  · simpa using cycleInputs_of_outside (outside_takeEvent hport u)

theorem takeHeldUpTo_cycleInputs (n : Nat) (u : State) : (takeHeldUpTo n u).cycleInputs = u.cycleInputs := by
  induction n generalizing u with
  | zero => rfl
  | succ n ih =>
    refine (ih _).trans ?_
    rcases takeOldestHeld_cases u with ⟨-, h⟩ | ⟨x, rest, -, h⟩ <;> rw [h]
    exact (cycleInputs_of_outside (outside_takeDueGrants _)).trans (takeEvent_cycleInputs x (u.setHeld rest))

theorem takeHeldUpTo_add (m n : Nat) (u : State) : takeHeldUpTo (m + n) u = takeHeldUpTo n (takeHeldUpTo m u) := by
  induction m generalizing u with
  | zero => rw [Nat.zero_add]; rfl
  | succ m ih => rw [Nat.succ_add]; exact ih _

/-- R148: with PORn released, the frame end `h` is the one that is held, and the edges of a frame that begins wait behind it. -/
structure FrameStartWaits (before : List HeldEvent) (h : HeldEvent) (after : List HeldEvent) (bits : List Bool) (u : State) :
    Prop where
  held : u.held = before ++ h :: after
  others : ∀ x ∈ before ++ after, x.port ≠ some .management
  isFrame : h.port = some .management
  por : u.por = false
  frame : u.frameInProgress = .csHigh
  edges : u.portWaiting = (PortEdge.csFall :: bits.map PortEdge.sck).map .edge

section
variable {before after : List HeldEvent} {h : HeldEvent} {bits : List Bool} {u : State}

/-- R148: where that frame end is the oldest event held, the frame begins as it is executed, with the reply that it leaves. -/
theorem FrameStartWaits.takeOldestHeld (hwaits : FrameStartWaits [] h after bits u) :
    (takeOldestHeld u).held = after ∧ (takeOldestHeld u).frameInProgress = .receiving bits (takeOldestHeld u).reply := by
  obtain ⟨hheld, -, hport, hpor, hframe, hedges⟩ := hwaits
  rcases takeOldestHeld_cases u with ⟨hnil, -⟩ | ⟨x, rest, hsame, htake⟩
  · cases hheld.symm.trans hnil
  obtain ⟨rfl, rfl⟩ := List.cons.inj (hheld.symm.trans hsame)
  obtain ⟨v, r, hv, hout⟩ := takeEvent_of_management hport (u.setHeld after)
  have hresume : takeEvent h (u.setHeld after) = (portEdges (.csFall :: bits.map .sck) v).setPortWaiting [] := by
    rw [hv, State.setHeld_portWaiting, hedges, ← List.append_nil (List.map ..), resumePort_edges]
    rfl
  have hbegins : (portEdges (.csFall :: bits.map .sck) v).frameInProgress = .receiving bits v.reply := by
    have hporAfter : v.por = false := (por_of_outside hout).trans hpor
    have hframeAfter : v.frameInProgress = .csHigh := (frameInProgress_of_outside hout).trans hframe
    rw [portEdges_eq, State.setFrameInProgress_frameInProgress, hporAfter, hframeAfter, edges_of_frameStart]
    rfl
  have hend : (Machine.takeOldestHeld u).outside = ((portEdges (.csFall :: bits.map .sck) v).setPortWaiting []).outside := by
    rw [htake, outside_takeDueGrants, hresume]
  refine ⟨(held_of_outside hend).trans (held_of_outside hout), ?_⟩
  rw [frameInProgress_of_outside hend, reply_of_outside hend]
  exact hbegins

/-- R148, R162: the events of the other interfaces, before and after that frame end, leave the frame as it begins. -/
theorem FrameStartWaits.takeHeldUpTo (hwaits : FrameStartWaits before h after bits u) {n : Nat} (hn : u.held.length ≤ n) :
    (takeHeldUpTo n u).frameInProgress = .receiving bits (takeHeldUpTo n u).reply := by
  have hothers := List.forall_mem_append.mp hwaits.others
  obtain ⟨k, rfl⟩ : ∃ k, n = before.length + (k + 1) := ⟨n - before.length - 1, by simp [hwaits.held] at hn; omega⟩
  have hfirst : (Machine.takeHeldUpTo before.length u).outside = u.outside.setHeld (h :: after) := by
    rw [outside_takeHeldUpTo (by simpa [hwaits.held] using hothers.1), hwaits.held, List.drop_left]
  have hnext : FrameStartWaits [] h after bits (Machine.takeHeldUpTo before.length u) :=
    { held := held_of_outside hfirst
      others := hothers.2
      isFrame := hwaits.isFrame
      por := (por_of_outside hfirst).trans hwaits.por
      frame := (frameInProgress_of_outside hfirst).trans hwaits.frame
      edges := (portWaiting_of_outside hfirst).trans hwaits.edges }
  obtain ⟨hleft, hbegins⟩ := hnext.takeOldestHeld
  have hlast := outside_takeHeldUpTo (n := k) (u := Machine.takeOldestHeld (Machine.takeHeldUpTo before.length u))
    fun x hx => hothers.2 x (hleft ▸ List.mem_of_mem_take hx)
  rw [takeHeldUpTo_add, Machine.takeHeldUpTo, frameInProgress_of_outside hlast, reply_of_outside hlast]
  exact hbegins

end

/-! ### A REFCLK cycle -/

theorem outside_refclkOnce (u : State) : (refclkOnce u).outside = (takeWaiting u).outside := by
  unfold refclkOnce tickOnce
  split <;> simp

theorem outside_setRefclkStopped (u : State) (x : Bool) : (u.setRefclkStopped x).outside = u.outside.setRefclkStopped x := rfl

theorem exec_refclkCycle (s : State) :
    exec .refclkCycle s = .next ((if s.por then takeInput s
      else takeDueBeforeStop s.nextInput.stops (refclkOnce (takeInput s))).setRefclkStopped s.nextInput.stops) := rfl

/-- R162: a REFCLK cycle takes the edges before it and, with PORn released, what waits; the rest of it works on the tables. -/
theorem outside_of_refclkCycle (s : State) :
    ∃ t, exec .refclkCycle s = .next t ∧
      t.outside = (if s.por then takeInput s else takeWaiting (takeInput s)).outside.setRefclkStopped s.nextInput.stops := by
  refine ⟨_, exec_refclkCycle s, ?_⟩
  rw [outside_setRefclkStopped]
  split
  · rfl
  · rcases takeDueBeforeStop_cases s.nextInput.stops (refclkOnce (takeInput s)) with ⟨-, h⟩ | ⟨-, h⟩ <;> rw [h]
    · rw [outside_takeDue, outside_refclkOnce]
    · rw [outside_refclkOnce]

theorem takeInput_cycleInputs (s : State) : (takeInput s).cycleInputs = s.cycleInputs.tail := by
  unfold takeInput
  rcases edgesArrive_cases s.nextInput.edges (s.setCycleInputs s.cycleInputs.tail) with ⟨-, -, h⟩ | ⟨-, h⟩ <;> rw [h] <;> rfl

theorem takeInput_held (s : State) : (takeInput s).held = s.held := by
  unfold takeInput
  rcases edgesArrive_cases s.nextInput.edges (s.setCycleInputs s.cycleInputs.tail) with ⟨-, -, h⟩ | ⟨-, h⟩ <;> rw [h] <;> rfl

/-- R148: where no frame end waits the edges reach the frame in progress. -/
theorem takeInput_of_no_frame {s : State} (h : ∀ x ∈ s.held, x.port ≠ some .management) :
    takeInput s = portEdges s.nextInput.edges (s.setCycleInputs s.cycleInputs.tail) := by
  rcases edgesArrive_cases s.nextInput.edges (s.setCycleInputs s.cycleInputs.tail) with ⟨-, hwaits, -⟩ | ⟨-, harrive⟩
  · obtain ⟨x, hx, hport⟩ := (State.waitsAt_iff ..).mp hwaits
    exact absurd hport (h x hx)
  · exact harrive

/-- R148, R162: behind a frame end that waits the edges wait. -/
theorem takeInput_of_frame {s : State} (hpor : s.por = false) (h : ∃ x ∈ s.held, x.port = some .management) :
    takeInput s = waitAtPort (s.nextInput.edges.map .edge) (s.setCycleInputs s.cycleInputs.tail) := by
  rcases edgesArrive_cases s.nextInput.edges (s.setCycleInputs s.cycleInputs.tail) with ⟨-, -, harrive⟩ | ⟨hp | hnone, -⟩
  · exact harrive
  · exact absurd (hpor.symm.trans hp) (by decide)
  · exact absurd (((State.waitsAt_iff ..).mpr h).symm.trans hnone) (by decide)

/-- The expiries and grants that are due, with the outputs of the command before gone, leave the port. -/
theorem outside_takeDue_clearOutputs (u : State) : (takeDue (clearOutputs u)).outside = u.outside.setMisos [] := by
  rw [outside_takeDue]
  rfl

theorem takeWaiting_cycleInputs (u : State) : (takeWaiting u).cycleInputs = u.cycleInputs := by
  unfold takeWaiting takeAllHeld
  rw [takeHeldUpTo_cycleInputs, cycleInputs_of_outside (outside_takeDue_clearOutputs u)]
  rfl

/-- R162: where no frame end waits, a cycle takes the events that do without looking at the management port. -/
theorem outside_takeWaiting {u : State} (h : ∀ x ∈ u.held, x.port ≠ some .management) :
    ∃ rest, (takeWaiting u).outside = (u.outside.setMisos []).setHeld rest := by
  have hdue := outside_takeDue_clearOutputs u
  have hheld : (takeDue (clearOutputs u)).held = u.held := by simpa using held_of_outside hdue
  unfold takeWaiting takeAllHeld
  rw [outside_takeHeldUpTo fun x hx => h x (hheld ▸ List.mem_of_mem_take hx), hdue]
  exact ⟨_, rfl⟩

/-- R148, R162: a cycle takes the held frame end with a frame's edges behind it, and the frame begins. -/
theorem FrameStartWaits.takeWaiting {before after : List HeldEvent} {h : HeldEvent} {bits : List Bool} {u : State}
    (hwaits : FrameStartWaits before h after bits u) :
    (takeWaiting u).frameInProgress = .receiving bits (takeWaiting u).reply := by
  have hdue := outside_takeDue_clearOutputs u
  have hsame : FrameStartWaits before h after bits (takeDue (clearOutputs u)) :=
    { hwaits with
      held := (held_of_outside hdue).trans hwaits.held
      por := (por_of_outside hdue).trans hwaits.por
      frame := (frameInProgress_of_outside hdue).trans hwaits.frame
      edges := (portWaiting_of_outside hdue).trans hwaits.edges }
  exact hsame.takeHeldUpTo (Nat.le_add_right ..)

/-- R148, R162: what a cycle leaves of the port where no frame end waits. -/
theorem refclkCycle_of_no_frame {s t : State} (hexec : exec .refclkCycle s = .next t)
    (h : ∀ x ∈ s.held, x.port ≠ some .management) :
    t.portWaiting = s.portWaiting ∧
      t.frameInProgress = s.nextInput.edges.foldl (FrameProgress.edge s.por s.reply) s.frameInProgress := by
  obtain ⟨t', hexec', hout⟩ := outside_of_refclkCycle s
  cases hexec.symm.trans hexec'
  have hport : t.portWaiting = (takeInput s).portWaiting ∧ t.frameInProgress = (takeInput s).frameInProgress := by
    split at hout
    · exact ⟨by simpa using portWaiting_of_outside hout, by simpa using frameInProgress_of_outside hout⟩
    · obtain ⟨rest, hrest⟩ := outside_takeWaiting (u := takeInput s) (by rwa [takeInput_held])
      rw [hrest] at hout
      exact ⟨by simpa using portWaiting_of_outside hout, by simpa using frameInProgress_of_outside hout⟩
  rw [takeInput_of_no_frame h] at hport
  exact hport

/-- R163: no event waits under PORn. -/
theorem por_of_held {s : State} (hinv : Inv s) {x : HeldEvent} (hx : x ∈ s.held) : s.por = false := by
  by_contra hpor
  obtain ⟨hreset, -⟩ := hinv.power (Bool.not_eq_false _ ▸ hpor)
  rw [hreset] at hx
  cases hx

/-- R148: of the events that wait one is the frame end. -/
theorem split_at_frame {s : State} (hinv : Inv s) {x : HeldEvent} (hx : x ∈ s.held) (hport : x.port = some .management) :
    ∃ before after, s.held = before ++ x :: after ∧ ∀ y ∈ before ++ after, y.port ≠ some .management := by
  obtain ⟨-, hone, -⟩ := hinv.port
  obtain ⟨before, after, hheld⟩ := List.append_of_mem hx
  refine ⟨before, after, hheld, ?_⟩
  have hnone : (before ++ after).filter (fun y => y.port = some .management) = [] := by
    simp only [hheld, List.filter_append, List.filter_cons, hport, decide_true, if_true, List.length_append,
      List.length_cons] at hone
    refine List.length_eq_zero_iff.mp ?_
    rw [List.filter_append, List.length_append]
    omega
  exact fun y hy => by simpa using List.filter_eq_nil_iff.mp hnone y hy

/-- R148, R162: a frame that begins behind a held frame end is in progress after the cycle, with the reply of the frame executed. -/
theorem refclkCycle_of_frameStart {s t : State} (hexec : exec .refclkCycle s = .next t) (hinv : Inv s)
    (h : ∃ x ∈ s.held, x.port = some .management) (hwait : s.portWaiting = []) {bits : List Bool}
    (hedges : s.nextInput.edges = .csFall :: bits.map PortEdge.sck) : t.frameInProgress = .receiving bits t.reply := by
  obtain ⟨x, hx, hport⟩ := id h
  obtain ⟨before, after, hheld, hothers⟩ := split_at_frame hinv hx hport
  have hpor := por_of_held hinv hx
  have hinput := takeInput_of_frame hpor h
  rw [hedges] at hinput
  have hwaits : FrameStartWaits before x after bits (takeInput s) :=
    { held := (takeInput_held s).trans hheld
      others := hothers
      isFrame := hport
      por := (takeInput_por s).trans hpor
      frame := hinput ▸ hinv.port.1 x hx hport
      edges := by rw [hinput, waitAtPort, State.setPortWaiting_portWaiting, State.setCycleInputs_portWaiting, hwait, List.nil_append] }
  obtain ⟨t', hexec', hout⟩ := outside_of_refclkCycle s
  cases hexec.symm.trans hexec'
  rw [if_neg (by simp [hpor])] at hout
  simpa [frameInProgress_of_outside hout, reply_of_outside hout] using hwaits.takeWaiting

/-! ### A frame that PORn interrupted -/

/-- A byte cut off after `m` bits, bit by bit. -/
theorem keepLeading_getMsbD (m : Nat) (b : Byte) {j : Nat} (hj : j < 8) :
    (keepLeading m b).getMsbD j = (decide (j < m) && b.getMsbD j) := by
  have hones : (0xFF : Byte).getLsbD (m + (7 - j)) = decide (m ≤ j) := by
    rw [show (0xFF : Byte) = BitVec.allOnes 8 from rfl, BitVec.getLsbD_allOnes, decide_eq_decide]
    omega
  have hlast : 8 - 1 - j = 7 - j := rfl
  simp only [keepLeading, BitVec.getMsbD, BitVec.getLsbD_and, BitVec.getLsbD_not, BitVec.getLsbD_ushiftRight, hj, hlast, hones]
  by_cases h : j < m
  · simp [h, Nat.not_le.mpr h]
    omega
  · simp [h, Nat.not_lt.mp h]

/-- R164: the reply held up to the assertion of PORn, and 0 from it on, bit for bit. -/
theorem sentUntilReset_getMsbD (r : Reply) (cycles k : Nat) {j : Nat} (hj : j < 8) :
    (sentUntilReset r cycles k).getMsbD j = (decide (8 * k + j < cycles) && (sentByte r k).getMsbD j) := by
  have hcycles : decide (j < cycles - 8 * k) = decide (8 * k + j < cycles) := by
    rw [decide_eq_decide]
    omega
  rw [sentUntilReset, keepLeading_getMsbD _ _ hj, hcycles]

/-- R163, R164: a frame that PORn interrupted ends with what MISO carried of it, whatever becomes of the end. -/
theorem exec_of_underReset {c : Instr} {f : Frame} {s : State} {sending : Reply} {cycles : Nat} (hf : frameOfInstr c = some f)
    (hframe : s.frameInProgress = .underReset sending cycles) (hnone : ∀ h ∈ s.held, h.port ≠ some .management) :
    ∃ t, exec c s = .next t ∧ t.frameInProgress = .csHigh ∧
      t.misos = [shiftOut (sentUntilReset sending cycles) f.bytes.length f.extra.val] := by
  have hended : (frameEnded f (s.setMisos [])).misos = [shiftOut (sentUntilReset sending cycles) f.bytes.length f.extra.val] := by
    simp [frameEnded_eq, misoAtEnd, hframe]
  refine ⟨_, exec_eq_endFrame hf s, ?_⟩
  rw [endFrame_eq c f s hf]
  rcases arriveAtManagement_cases c f (s.setMisos []) with ⟨-, h⟩ | ⟨-, -, h⟩ | ⟨-, -, hwaits, -⟩ | ⟨-, -, -, h⟩
  · rw [h]
    exact ⟨rfl, hended⟩
  · rcases takeFrameEnd_cases c f (s.setMisos []) with ⟨-, htake⟩ | ⟨hne, -⟩
    · rw [h, htake]
      exact ⟨rfl, hended⟩
    · exact absurd hframe (hne sending cycles)
  · obtain ⟨x, hx, hport⟩ := (State.waitsAt_iff ..).mp hwaits
    exact absurd hport (hnone x hx)
  · rcases holdFrameEnd_cases c f (s.setMisos []) with ⟨-, hhold⟩ | ⟨hne, -⟩
    · rw [h, hhold]
      exact ⟨rfl, hended⟩
    · exact absurd hframe (hne sending cycles)

/-! ### The statement -/

theorem nextInput_of_cons {s : State} {x : CycleInput} {rest : List CycleInput} (h : s.cycleInputs = x :: rest) :
    s.nextInput = x := by
  rw [State.nextInput, h, List.headD_cons]

/-- R163, R164: the frame in progress after the assertion of PORn, by the level of CS after what waits on the port. -/
theorem frameAtAssertion_of_csLow {s : State} (h : csLowAfter s.portWaiting = true) : s.frameAtAssertion = .underReset s.reply 0 :=
  if_pos h

theorem frameAtAssertion_of_csHigh {s : State} (h : csLowAfter s.portWaiting = false) :
    s.frameAtAssertion = s.frameInProgress.interrupted := by
  rw [State.frameAtAssertion, h]
  rfl

/-- R148, R162: a REFCLK cycle takes the board's next input. -/
theorem refclkCycle_inputs {s t : State} (hexec : exec .refclkCycle s = .next t) :
    t.cycleInputs = s.cycleInputs.tail ∧ t.refclkStopped = s.nextInput.stops := by
  obtain ⟨t', hexec', hout⟩ := outside_of_refclkCycle s
  cases hexec.symm.trans hexec'
  rw [cycleInputs_of_outside hout, State.setRefclkStopped_cycleInputs, State.outside_cycleInputs]
  refine ⟨?_, by rw [refclkStopped_of_outside hout, State.setRefclkStopped_refclkStopped]⟩
  split
  · exact takeInput_cycleInputs s
  · exact (takeWaiting_cycleInputs _).trans (takeInput_cycleInputs s)

/-- Settles O41: a cycle by the edges and by the frame end that may wait, the assertion of PORn by the level of CS, and the end of a frame
that PORn interrupted bit by bit. -/
theorem theFrameInProgressIsShiftedInAndLostToPorn : Obligations.TheFrameInProgressIsShiftedInAndLostToPorn := by
  refine ⟨fun s x rest bits hinputs => ?_, fun s => ?_, fun c f s sending cycles hf hframe hnone => ?_⟩
  · obtain ⟨t, hexec, -⟩ := outside_of_refclkCycle s
    obtain ⟨htail, hstops⟩ := refclkCycle_inputs hexec
    rw [hinputs] at htail
    have hinput := nextInput_of_cons hinputs
    refine ⟨t, hexec, htail, hinput ▸ hstops, fun hinv hheld hwait hedges =>
      refclkCycle_of_frameStart hexec hinv hheld hwait (hinput ▸ hedges), fun hnone => ?_⟩
    obtain ⟨hport, hframe⟩ := refclkCycle_of_no_frame hexec hnone
    rw [hinput] at hframe
    refine ⟨hport, fun hhigh hedges => ?_, fun old sending hlow hedges => ?_, fun hhigh hedges => ?_⟩
    · rw [hframe, hedges, hhigh, edges_of_frameStart]
    · rw [hframe, hedges, hlow, FrameProgress.edges_receive]
    · rw [hframe, hedges, hhigh, edges_of_csHigh]
  · refine ⟨powerOnState s, rfl, fun hwait old sending hlow => ?_, fun before bits hwait => ?_, fun before d hwait hhigh => ?_⟩
    · refine (frameAtAssertion_of_csHigh (by rw [hwait]; rfl)).trans ?_
      rw [hlow]
      rfl
    · exact frameAtAssertion_of_csLow (by rw [hwait, csLowAfter_append_fall])
    · refine (frameAtAssertion_of_csHigh (by rw [hwait, csLowAfter_append_frameEnd])).trans ?_
      rw [hhigh]
      rfl
  · intro sent
    obtain ⟨t, hexec, hhigh, hmisos⟩ := exec_of_underReset hf hframe hnone
    have hsent : sentByte sending = sent := funext fun k => sentByte_eq sending k
    refine ⟨t, _, hexec, hhigh, hmisos, shiftOut_bytes_length .., shiftOut_bits_length .., fun k j hk hj => ?_, fun j hj => ?_⟩
    · rw [shiftOut_bytes_getElem? _ _ _ hk, Option.map_some, sentUntilReset_getMsbD _ _ _ hj, hsent]
    · rw [shiftOut_bits_getElem? _ _ _ hj, sentUntilReset_getMsbD _ _ _ (hj.trans f.extra.isLt), hsent]

end Sys2Proof.Machine

/-! ## What PORn does: its assertion, its release, and the part held under it (R163, R164). -/

namespace Sys2Proof.Machine

/-- Settles O34: the power-on state, read field by field. -/
theorem powerOnResetReachesThePowerOnState : Obligations.PowerOnResetReachesThePowerOnState := by
  intro s
  refine ⟨powerOnState s, rfl, rfl, rfl, rfl, rfl, rfl, rfl, rfl, rfl, rfl, rfl, rfl, ?_⟩
  have hframe : (powerOnState s).frameInProgress = s.frameAtAssertion := rfl
  refine ⟨fun u => ?_, rfl, fun w => ?_, fun i => ?_, rfl, rfl, rfl, rfl, fun c => ?_, rfl, rfl, ?_, ?_, rfl, rfl, rfl, rfl⟩
  · simp [powerOnState, State.reset]
  · simp [powerOnState, State.reset, Window.powerOn]
  · simp [powerOnState, State.reset, StreamRecord.powerOn]
  · simp [powerOnState, State.reset]
  · rw [hframe, State.frameAtAssertion]
    split
    · rfl
    · cases s.frameInProgress <;> rfl
  · intro hhigh hwait
    rw [hframe, frameAtAssertion_of_csHigh (by rw [hwait]; rfl), hhigh]
    rfl

/-- Settles O35: by the level of PORn, the length of the pulse and the level of CS. -/
theorem releaseOfPornStartsThePart : Obligations.ReleaseOfPornStartsThePart := by
  intro s csLow fullPulse
  refine ⟨fun hpor => ?_, fun hpor => ?_, fun hpor => ?_⟩
  · refine (if_pos hpor).trans ?_
    rw [if_pos rfl]
    unfold releasePorn FrameProgress.atRelease
    cases csLow
    · rfl
    · cases s.frameInProgress <;> rfl
  · simp [exec, execReleaseOfPorn, hpor]
  · simp [exec, execReleaseOfPorn, hpor]

/-! ### The state after reset -/

section
variable (i : StreamNo) (t : TagNo)

theorem reset_stream : State.reset.streams[i] = StreamRecord.powerOn := by simp [State.reset]
theorem reset_tag : State.reset.tags[t] = .free := by simp [State.reset]
theorem reset_window (w : WindowNo) : State.reset.windows[w] = Window.powerOn := by simp [State.reset]
theorem reset_counters (c : Fin 19) : State.reset.counters[c] = 0 := by simp [State.reset]

end

/-- R163: with every table empty and every tag FREE the rules of the tables speak of no entry. -/
theorem inv_reset : Inv State.reset where
  distinct := ⟨.nil, .nil, nofun, nofun⟩
  openAgree := by
    refine ⟨fun i id hid => ?_, nofun⟩
    rw [reset_stream] at hid
    cases hid
  openLatest := nofun
  tags := ⟨fun t => by simp [ownerAgrees, reset_tag t], nofun, nofun⟩
  hazards := nofun
  inOrder := nofun
  noVoid := nofun
  reads := ⟨.nil, nofun⟩
  quiet := ⟨fun _ => ⟨nofun, nofun⟩, nofun, nofun⟩
  drain := ⟨fun _ => ⟨rfl, rfl⟩, nofun⟩
  timers := ⟨nofun, nofun, fun t => by rw [reset_tag]; rfl⟩
  items := by
    refine ⟨by decide, by decide, by decide, by decide, by decide, by decide, by decide, fun w => ?_⟩
    rw [reset_window]
    exact Nat.le_refl _
  power := nofun
  held := ⟨nofun, nofun, nofun⟩
  port := ⟨nofun, Nat.zero_le 1, nofun, nofun⟩
  stopped := nofun
  bus := fun _ => rfl

/-- Settles O57: the tables are empty, and every count is 0. -/
theorem resetMeetsTheInvariants : Obligations.ResetMeetsTheInvariants := by
  have hcounter (c : Counter) : State.reset.counter c = 0 := reset_counters c.index
  refine ⟨inv_reset, ⟨by decide, by decide, by decide, by decide, by decide, by decide, fun c => ?_⟩, ?_, ?_⟩
  · rw [reset_counters]
    exact Nat.zero_le _
  · simp only [CountersAgree, hcounter]
    decide
  · simp only [EntriesAccounted, hcounter]
    exact fun _ _ _ _ _ => rfl

end Sys2Proof.Machine

/-! ## Every command answers and keeps the queue; what comes under PORn and in a stop of REFCLK is not taken (R162, R163, R164). -/

namespace Sys2Proof.Machine

/-! ### The queue of waiting commands -/

@[simp] theorem State.outside_pending (u : State) : u.outside.pending = u.pending := rfl

/-- What leaves the pins and the port leaves the queue. -/
theorem pending_of_outside {u v : State} (h : u.outside = v) : u.pending = v.pending := h ▸ rfl

theorem pending_eq_of_outside {u v : State} (h : u.outside = v.outside) : u.pending = v.pending :=
  (pending_of_outside h).trans rfl

section
variable (u : State)

theorem holdFrameEnd_pending (c : Instr) (f : Frame) : (holdFrameEnd c f u).pending = u.pending := by
  rcases holdFrameEnd_cases c f u with ⟨-, h⟩ | ⟨-, h⟩ <;> rw [h] <;> rfl

theorem resumePort_pending (events : List PortEvent) : (resumePort events u).pending = u.pending := by
  induction events generalizing u with
  | nil => rfl
  | cons e rest ih =>
    cases e with
    | edge e => exact ih (portEdges [e] u)
    | frameEnd c =>
      unfold resumePort
      split
      · exact holdFrameEnd_pending u c _
      · exact ih u

theorem takeEvent_pending (h : HeldEvent) : (takeEvent h u).pending = u.pending := by
  by_cases hport : h.port = some .management
  · obtain ⟨v, r, hv, hout⟩ := takeEvent_of_management hport u
    simpa [hv, resumePort_pending] using pending_of_outside hout
  · simpa using pending_of_outside (outside_takeEvent hport u)

theorem takeHeldUpTo_pending (n : Nat) : (takeHeldUpTo n u).pending = u.pending := by
  induction n generalizing u with
  | zero => rfl
  | succ n ih =>
    refine (ih _).trans ?_
    rcases takeOldestHeld_cases u with ⟨-, h⟩ | ⟨x, rest, -, h⟩ <;> rw [h]
    exact (pending_of_outside (outside_takeDueGrants _)).trans (takeEvent_pending (u.setHeld rest) x)

theorem takeWaiting_pending : (takeWaiting u).pending = u.pending := by
  unfold takeWaiting takeAllHeld
  rw [takeHeldUpTo_pending, pending_of_outside (outside_takeDue_clearOutputs u)]
  rfl

theorem takeInput_pending : (takeInput u).pending = u.pending := by
  unfold takeInput
  rcases edgesArrive_cases u.nextInput.edges (u.setCycleInputs u.cycleInputs.tail) with ⟨-, -, h⟩ | ⟨-, h⟩ <;> rw [h] <;> rfl

theorem takeFrame_pending (c : Instr) (f : Frame) : (takeFrame c f u).pending = u.pending := by
  obtain ⟨r, hr⟩ := outside_takeFrame u c f
  exact (pending_of_outside hr).trans rfl

theorem arriveAtManagement_pending (c : Instr) (f : Frame) : (arriveAtManagement c f u).pending = u.pending := by
  rcases arriveAtManagement_cases c f u with ⟨-, h⟩ | ⟨-, -, h⟩ | ⟨-, -, -, h⟩ | ⟨-, -, -, h⟩ <;> rw [h]
  · rfl
  · rcases takeFrameEnd_cases c f u with ⟨-, htake⟩ | ⟨-, htake⟩ <;> rw [htake]
    · rfl
    · exact takeFrame_pending _ c f
  · rfl
  · exact holdFrameEnd_pending u c f

theorem arriveAtDeviceBus_pending (c : Instr) {take : State → State} (h : (take u).pending = u.pending) :
    (arriveAtDeviceBus c take u).pending = u.pending := by
  rcases arriveAtDeviceBus_cases c take u with ⟨-, e⟩ | ⟨-, -, -, e⟩ | ⟨-, -, -, e⟩ <;> rw [e]
  · rfl
  · exact h

theorem arriveAtMemoryLink_pending (c : Instr) {take : State → State} (h : (take u).pending = u.pending) :
    (arriveAtMemoryLink c take u).pending = u.pending := by
  rcases arriveAtMemoryLink_cases c take u with ⟨-, e⟩ | ⟨-, -, e⟩ | ⟨-, -, e⟩ <;> rw [e]
  · rfl
  · exact h

theorem assertDrstn_pending : (assertDrstn u).pending = u.pending := by
  unfold assertDrstn
  split
  · rfl
  · split
    · rfl
    · rw [dBusResetEvent_eq]
      rfl

end

/-- The command, run on the state, answers a next state with the same queue. -/
def answersAndKeepsQueue (c : Instr) (s : State) : Prop :=
  ∃ t, exec c s = .next t ∧ t.pending = s.pending

/-- R148 to R151: the rows of the management port. -/
theorem answersAndKeepsQueue_of_frame {c : Instr} {f : Frame} (hf : frameOfInstr c = some f) (s : State) :
    answersAndKeepsQueue c s :=
  ⟨_, exec_eq_endFrame hf s, by rw [endFrame_eq c f s hf]; exact arriveAtManagement_pending _ c f⟩

/-- R15, R60, R61, R81: the expiry rows. -/
theorem answersAndKeepsQueue_of_expiry {c : Instr} {expire : State → State} {s : State}
    (hexec : exec c s = .next (if timersRun s then expire s else s)) (h : (expire s).outside = s.outside) :
    answersAndKeepsQueue c s := by
  refine ⟨_, hexec, ?_⟩
  split
  · exact pending_eq_of_outside h
  · rfl

theorem answersAndKeepsQueue_refclkCycle (s : State) : answersAndKeepsQueue .refclkCycle s := by
  obtain ⟨t, hexec, hout⟩ := outside_of_refclkCycle s
  refine ⟨t, hexec, (pending_of_outside hout).trans ?_⟩
  rw [State.setRefclkStopped_pending, State.outside_pending]
  split
  · exact takeInput_pending s
  · exact (takeWaiting_pending _).trans (takeInput_pending s)

theorem answersAndKeepsQueue_tick (s : State) : answersAndKeepsQueue .tick s := by
  refine ⟨if s.por then s else (tickOnce s).setRefclkStopped false, rfl, ?_⟩
  split
  · rfl
  · simpa [tickOnce, advanceTimers] using takeWaiting_pending s

/-- Settles O2, by the rows of the table. -/
theorem onlyAShortResetPulseStops : Obligations.OnlyAShortResetPulseStops := by
  intro c s
  cases c with
  | releaseOfPorn csLow fullPulse =>
    cases hpor : s.por with
    | false => exact .inl ⟨s, by simp [exec, execReleaseOfPorn, hpor], rfl⟩
    | true =>
      cases fullPulse with
      | true => exact .inl ⟨releasePorn csLow s, by simp [exec, execReleaseOfPorn, hpor], rfl⟩
      | false => exact .inr ⟨by simp [exec, execReleaseOfPorn, hpor], rfl, csLow, rfl⟩
  | write i a data =>
    exact .inl ⟨_, rfl, arriveAtDeviceBus_pending _ _ (pending_eq_of_outside (outside_writeTransaction _ i a data))⟩
  | read i a n => exact .inl ⟨_, rfl, arriveAtDeviceBus_pending _ _ (pending_eq_of_outside (outside_readTransaction _ i a n))⟩
  | writeResponse t st => exact .inl ⟨_, rfl, arriveAtMemoryLink_pending s _ (pending_eq_of_outside (outside_takeWriteResponse s t st))⟩
  | readResponse t r => exact .inl ⟨_, rfl, arriveAtMemoryLink_pending s _ (pending_eq_of_outside (outside_takeReadResponse s t r))⟩
  | grant =>
    obtain ⟨tags, q, p, g, r, h⟩ := grantOnce_frame (s.setRequests [])
    exact .inl ⟨grantOnce (s.setRequests []), rfl, by rw [h]; rfl⟩
  | combineAgeExpiry i => exact .inl (answersAndKeepsQueue_of_expiry rfl (outside_sealWhere s _))
  | claimTimeOut i l => exact .inl (answersAndKeepsQueue_of_expiry rfl (outside_expireClaim s i l))
  | lingerTimerExpiry i l => exact .inl (answersAndKeepsQueue_of_expiry rfl (outside_expireLinger s i l))
  | memoryTimeOut t => exact .inl (answersAndKeepsQueue_of_expiry rfl (outside_expireMemory s t))
  | tick => exact .inl (answersAndKeepsQueue_tick s)
  | refclkCycle => exact .inl (answersAndKeepsQueue_refclkCycle s)
  | dBusReset => exact .inl ⟨_, rfl, assertDrstn_pending s⟩
  | readyAssertion | readyDeassertion | releaseOfDrstn | powerOnReset => exact .inl ⟨_, rfl, rfl⟩
  | _ => exact .inl (answersAndKeepsQueue_of_frame rfl s)

/-! ### A stop of REFCLK -/

/-- R162, R148: behind a frame end that waits, the end of a frame waits on the port. -/
theorem exec_of_frameWaits {s : State} {c : Instr} {f : Frame} (hf : frameOfInstr c = some f) (hpor : s.por = false)
    (hstop : s.refclkStopped = true) (hwaits : s.waitsAt .management = true) :
    exec c s = .next ((s.setPortWaiting (s.portWaiting ++ [.frameEnd c])).setMisos []) := by
  rw [exec_eq_endFrame hf, endFrame_eq c f s hf]
  unfold arriveAtManagement
  refine congrArg _ ((if_neg (by simp [hpor])).trans ((if_neg (by simp [hstop])).trans ((if_pos hwaits).trans ?_)))
  rfl

/-- R162: in a stop of REFCLK the end of a frame is held where none waits. -/
theorem exec_of_stopped {s : State} {c : Instr} {f : Frame} (hf : frameOfInstr c = some f) (hpor : s.por = false)
    (hstop : s.refclkStopped = true) (hnone : ∀ h ∈ s.held, h.port ≠ some .management) :
    exec c s = .next (holdFrameEnd c f (s.setMisos [])) := by
  have hwaits : ¬ s.waitsAt .management = true := fun hw =>
    let ⟨h, hmem, hport⟩ := (State.waitsAt_iff ..).mp hw
    hnone h hmem hport
  rw [exec_eq_endFrame hf, endFrame_eq c f s hf]
  unfold arriveAtManagement
  exact congrArg _ ((if_neg (by simp [hpor])).trans ((if_neg (by simp [hstop])).trans (if_neg hwaits)))

/-- R151: what the end of a frame that PORn did not spoil leaves of the port, with PORn released. -/
theorem frameEnded_of_not_spoiled {s : State} {c : Instr} {f : Frame} (hf : frameOfInstr c = some f) (hpor : s.por = false)
    (h : s.frameInProgress.spoiled = false) : frameEnded f (s.setMisos []) = afterCsRise s s c := by
  have hmiso : misoAtEnd (s.setMisos []) f = shiftOut (sentByte (replySent s)) f.bytes.length f.extra.val := by
    unfold misoAtEnd replySent
    simp only [State.setMisos_frameInProgress, State.setMisos_por, State.setMisos_reply]
    cases hframe : s.frameInProgress with
    | csHigh => simp [hpor]
    | receiving bits sending => rfl
    | underReset r n => simp [hframe, FrameProgress.spoiled] at h
  rw [frameEnded_eq, hmiso, afterCsRise, misoDuring, hf]
  rfl

/-- Settles O32: by the interface at which the event arrives. -/
theorem arrivalsWaitWhileRefclkIsStopped : Obligations.ArrivalsWaitWhileRefclkIsStopped := by
  intro s hpor hstop
  have hrun : timersRun s = false := by simp [timersRun, hpor, hstop]
  refine ⟨fun i a data n hbus => ⟨?_, ?_⟩, fun t st r => ⟨?_, ?_⟩, fun c f hf hwaits => ?_,
    fun c f hf hnone => ⟨fun h => ?_, fun h => ?_⟩,
    fun i l t => ⟨?_, ?_, ?_, ?_⟩⟩
  · simp [exec, execWrite, arriveAtDeviceBus, hpor, hbus, hstop, holdEvent]
    rfl
  · simp [exec, execRead, arriveAtDeviceBus, hpor, hbus, hstop, holdEvent]
    rfl
  · simp [exec, execWriteResponse, arriveAtMemoryLink, hpor, hstop, holdEvent]
  · simp [exec, execReadResponse, arriveAtMemoryLink, hpor, hstop, holdEvent]
  · exact exec_of_frameWaits hf hpor hstop ((State.waitsAt_iff ..).mpr hwaits)
  · rw [exec_of_stopped hf hpor hstop hnone, ← frameEnded_of_not_spoiled hf hpor h]
    rcases holdFrameEnd_cases c f (s.setMisos []) with ⟨hspoiled, -⟩ | ⟨-, hhold⟩
    · exact absurd ((FrameProgress.spoiled_iff _).mpr hspoiled) (by simp [h])
    · rw [hhold]
      rfl
  · rw [exec_of_stopped hf hpor hstop hnone]
    rcases holdFrameEnd_cases c f (s.setMisos []) with ⟨-, hhold⟩ | ⟨hne, -⟩
    · exact ⟨misoAtEnd (s.setMisos []) f, by rw [hhold]; rfl⟩
    · obtain ⟨r, n, hframe⟩ := (FrameProgress.spoiled_iff _).mp h
      exact absurd hframe (hne r n)
  · simp [exec, execCombineAgeExpiry, hrun]
  · simp [exec, execClaimTimeOut, hrun]
  · simp [exec, execLingerTimerExpiry, hrun]
  · simp [exec, execMemoryTimeOut, hrun]

/-! ### PORn asserted -/

/-- R164: under PORn, a frame that began under it carries 00 Hex in every byte. -/
theorem sentUntilReset_zero (r : Reply) : sentUntilReset r 0 = fun _ => 0 := by
  funext k
  have hcut : 0 - 8 * k = 0 := by omega
  simp [sentUntilReset, hcut, keepLeading]

/-- R164: MISO during such a frame. -/
theorem shiftOut_of_reset (r : Reply) (n m : Nat) :
    (shiftOut (sentUntilReset r 0) n m).bytes = List.replicate n 0 ∧
      ∀ b ∈ (shiftOut (sentUntilReset r 0) n m).bits, b = false := by
  rw [sentUntilReset_zero]
  refine ⟨by simp [shiftOut], fun b hb => ?_⟩
  simp only [shiftOut, leadingBits, List.mem_map] at hb
  obtain ⟨j, -, rfl⟩ := hb
  simp [BitVec.getMsbD]

/-- R163: edges that come under PORn, from a frame that is not received, leave one that is not received. -/
theorem edges_under_porn (held : Reply) (edges : List PortEdge) {f : FrameProgress} (h : f.isReceiving = false) :
    (edges.foldl (FrameProgress.edge true held) f).isReceiving = false := by
  induction edges generalizing f with
  | nil => exact h
  | cons e edges ih =>
    refine ih ?_
    cases f with
    | receiving bits r => cases h
    | csHigh => cases e <;> rfl
    | underReset r n => cases e <;> rfl

/-- R163: what a command that is no event of the pins may change under PORn: the outputs, the pins and the frame in progress. -/
def idlesUnderPorn (c : Instr) (s t : State) : Prop :=
  t = (((((s.setAnswers t.answers).setRequests t.requests).setMisos t.misos).setFrameInProgress t.frameInProgress).setRefclkStopped
      t.refclkStopped).setCycleInputs t.cycleInputs ∧
    (c ≠ .refclkCycle → t.refclkStopped = s.refclkStopped ∧ t.cycleInputs = s.cycleInputs) ∧
    (s.frameInProgress.isReceiving = false → t.frameInProgress.isReceiving = false) ∧
    (∀ i a data, c = .write i a data → t.answers = []) ∧ (∀ i a n, c = .read i a n → t.answers = []) ∧
    (c = .grant → t.requests = []) ∧
    ∀ f, frameOfInstr c = some f →
      t.frameInProgress = .csHigh ∧
        (s.frameInProgress = .csHigh ∨ (∃ sending, s.frameInProgress = .underReset sending 0) →
          ∃ miso, t.misos = [miso] ∧ miso.bytes = List.replicate f.bytes.length 0 ∧ ∀ b ∈ miso.bits, b = false)

/-- A command of no output, no frame and no cycle idles where it leaves the state. -/
theorem idlesUnderPorn_self {c : Instr} (s : State) (hwrite : ∀ i a data, c ≠ .write i a data) (hread : ∀ i a n, c ≠ .read i a n)
    (hgrant : c ≠ .grant) (hframe : frameOfInstr c = none) : idlesUnderPorn c s s := by
  refine ⟨by cases s; rfl, fun _ => ⟨rfl, rfl⟩, id, fun i a data h => absurd h (hwrite i a data), fun i a n h => absurd h (hread i a n),
    fun h => absurd h hgrant, fun f h => ?_⟩
  rw [hframe] at h
  cases h

/-- R163, R164: the end of a frame under PORn. -/
theorem idlesUnderPorn_of_frame {c : Instr} {f : Frame} {s t : State} (hf : frameOfInstr c = some f) (hpor : s.por = true)
    (hexec : exec c s = .next t) : idlesUnderPorn c s t := by
  have ht : t = frameEnded f (s.setMisos []) := by
    rw [exec_eq_endFrame hf, endFrame_eq c f s hf] at hexec
    cases hexec
    exact if_pos hpor
  subst ht
  refine ⟨by cases s; rfl, fun _ => ⟨rfl, rfl⟩, fun _ => rfl, ?_, ?_, ?_, fun g hg => ⟨rfl, fun hframe => ?_⟩⟩
  · rintro i a data rfl
    cases hf
  · rintro i a n rfl
    cases hf
  · rintro rfl
    cases hf
  · cases hf.symm.trans hg
    have hmiso : ∃ r, misoAtEnd (s.setMisos []) f = shiftOut (sentUntilReset r 0) f.bytes.length f.extra.val := by
      unfold misoAtEnd
      simp only [State.setMisos_frameInProgress, State.setMisos_por, State.setMisos_reply, hpor, if_true]
      rcases hframe with h | ⟨sending, h⟩ <;> rw [h]
      · exact ⟨s.reply, rfl⟩
      · exact ⟨sending, rfl⟩
    obtain ⟨r, hr⟩ := hmiso
    exact ⟨misoAtEnd (s.setMisos []) f, rfl, hr ▸ (shiftOut_of_reset r _ _).1, hr ▸ (shiftOut_of_reset r _ _).2⟩

/-- R163: a REFCLK cycle under PORn. -/
theorem idlesUnderPorn_refclkCycle {s t : State} (hpor : s.por = true) (hexec : exec .refclkCycle s = .next t) :
    idlesUnderPorn .refclkCycle s t := by
  have ht : t = (portEdges s.nextInput.edges (s.setCycleInputs s.cycleInputs.tail)).setRefclkStopped s.nextInput.stops := by
    rw [exec_refclkCycle, if_pos hpor] at hexec
    cases hexec
    rcases edgesArrive_cases s.nextInput.edges (s.setCycleInputs s.cycleInputs.tail) with ⟨hlow, -, -⟩ | ⟨-, h⟩
    · exact absurd (hpor.symm.trans hlow) (by decide)
    · exact congrArg (State.setRefclkStopped · s.nextInput.stops) h
  subst ht
  refine ⟨by cases s; rfl, fun h => absurd rfl h, fun h => ?_, nofun, nofun, nofun, nofun⟩
  have hedges := edges_under_porn s.reply s.nextInput.edges h
  rw [← hpor] at hedges
  exact hedges

/-- Settles O36, by the rows of the table that no pin moves. -/
theorem nothingIsTakenUnderPorn : Obligations.NothingIsTakenUnderPorn := by
  intro c s t hpor hexec hrelease hreset hready hdeassert hbus hdrstn
  suffices h : idlesUnderPorn c s t from h
  have hrun : timersRun s = false := by simp [timersRun, hpor]
  have houtputs (c : Instr) (take : State → State) (x : List Answer) :
      arriveAtDeviceBus c take (s.setAnswers x) = s.setAnswers x := by simp [arriveAtDeviceBus, hpor]
  cases c with
  | releaseOfPorn a b => exact absurd rfl (hrelease a b)
  | powerOnReset => exact absurd rfl hreset
  | readyAssertion => exact absurd rfl hready
  | readyDeassertion => exact absurd rfl hdeassert
  | dBusReset => exact absurd rfl hbus
  | releaseOfDrstn => exact absurd rfl hdrstn
  | write i a data =>
    simp only [exec, execWrite, houtputs] at hexec
    cases hexec
    exact ⟨by cases s; rfl, fun _ => ⟨rfl, rfl⟩, id, fun _ _ _ _ => rfl, nofun, nofun, nofun⟩
  | read i a n =>
    simp only [exec, execRead, houtputs] at hexec
    cases hexec
    exact ⟨by cases s; rfl, fun _ => ⟨rfl, rfl⟩, id, nofun, fun _ _ _ _ => rfl, nofun, nofun⟩
  | grant =>
    simp only [exec, execGrant, grantOnce, State.setRequests_por, hpor, Bool.true_or, if_true] at hexec
    cases hexec
    exact ⟨by cases s; rfl, fun _ => ⟨rfl, rfl⟩, id, nofun, nofun, fun _ => rfl, nofun⟩
  | writeResponse u st =>
    simp only [exec, execWriteResponse, arriveAtMemoryLink, hpor, if_true] at hexec
    cases hexec
    exact idlesUnderPorn_self s nofun nofun nofun rfl
  | readResponse u r =>
    simp only [exec, execReadResponse, arriveAtMemoryLink, hpor, if_true] at hexec
    cases hexec
    exact idlesUnderPorn_self s nofun nofun nofun rfl
  | tick =>
    simp only [exec, execTick, hpor, if_true] at hexec
    cases hexec
    exact idlesUnderPorn_self s nofun nofun nofun rfl
  | combineAgeExpiry i =>
    simp only [exec, execCombineAgeExpiry, hrun] at hexec
    cases hexec
    exact idlesUnderPorn_self s nofun nofun nofun rfl
  | claimTimeOut i l =>
    simp only [exec, execClaimTimeOut, hrun] at hexec
    cases hexec
    exact idlesUnderPorn_self s nofun nofun nofun rfl
  | lingerTimerExpiry i l =>
    simp only [exec, execLingerTimerExpiry, hrun] at hexec
    cases hexec
    exact idlesUnderPorn_self s nofun nofun nofun rfl
  | memoryTimeOut u =>
    simp only [exec, execMemoryTimeOut, hrun] at hexec
    cases hexec
    exact idlesUnderPorn_self s nofun nofun nofun rfl
  | refclkCycle => exact idlesUnderPorn_refclkCycle hpor hexec
  | _ => exact idlesUnderPorn_of_frame rfl hpor hexec

end Sys2Proof.Machine

/-! ## What an event other than the tick can do to the entries and tags that have timers, and to the operating state (R123, R162). -/

namespace Sys2Proof.Machine

/-! ### The statement -/

/-- R60, R61: the claim or linger timer of the entry has reached its limit. -/
def PrtEntry.timerDue (p : PrtEntry) : Bool :=
  p.claimDue || p.lingerDue

/-- The names by which a PRT entry is told apart (R44): its id, and its stream and line. -/
def PrtEntry.key (p : PrtEntry) : Nat × StreamNo × Line :=
  (p.id, p.stream, p.line)

/-- R155: the timers of the PRT and of the tags start below their limits. -/
def State.timersStart (s : State) : Prop :=
  1 ≤ s.timers.claimTime ∧ 1 ≤ s.timers.lingerTime ∧ 1 ≤ s.timers.memTimeout

/-- R44: PRT entries are distinct objects, and no two have the same stream and line. -/
structure ReadsApart (s : State) : Prop where
  ids : (s.prt.map PrtEntry.id).Nodup
  fresh : ∀ p ∈ s.prt, p.id < s.nextId
  lines : s.prt.Pairwise fun p q => ¬(p.stream = q.stream ∧ p.line = q.line)

/-- R73: a request under the tag is among those sent. -/
def requestSent (t : TagNo) (sent : List LinkRequest) : Prop :=
  (∃ l bytes, .writeRequest t l bytes ∈ sent) ∨ ∃ l, .readRequest t l ∈ sent

/-- Of what has a timer: entries join with new ids and with timers below their limits, no entry that is not OPEN becomes OPEN, no timer but
a new one starts, and a tag becomes BUSY only with its request sent. -/
structure TimersFollow (u v : State) : Prop where
  nextId : u.nextId ≤ v.nextId
  start : u.timersStart → v.timersStart
  requests : u.requests <+: v.requests
  opens : ∀ x ∈ v.pq, x.isOpen = true →
    (∃ y ∈ u.pq, y.id = x.id ∧ y.state = x.state) ∨ (u.nextId ≤ x.id ∧ x.ageDue = false)
  reads : ∀ q ∈ v.prt, (∃ p ∈ u.prt, p.id = q.id) ∨ u.nextId ≤ q.id
  readsDue : u.timersStart → ∀ q ∈ v.prt, q.timerDue = true → ∃ p ∈ u.prt, p.timerDue = true
  tagsBusy : ∀ t : TagNo, v.tags[t].isBusy = true → u.tags[t].isBusy = true ∨ requestSent t v.requests
  tagsDue : u.timersStart → ∀ t : TagNo, v.tags[t].due = true → u.tags[t].due = true
  apart : ReadsApart u → ReadsApart v

/-- R123: the operating state stays or the drain completes, and outside ONLINE nothing joins an empty table. -/
structure DrainFollows (u v : State) : Prop where
  pq : u.opState ≠ .online → u.pq = [] → v.pq = []
  prt : u.opState ≠ .online → u.prt = [] → v.prt = []
  moves : v.opState = u.opState ∨ (u.opState = .draining ∧ v.opState = .offline ∧ v.pq = [] ∧ v.prt = [])

/-- What an event other than the tick, START and STOP can do. -/
structure Follows (u v : State) : Prop extends TimersFollow u v, DrainFollows u v

/-- What the relation speaks of. -/
def State.timersView (s : State) : List PqEntry × List PrtEntry × Vector Tag 16 × Nat × TimerItems × List LinkRequest × OpState :=
  (s.pq, s.prt, s.tags, s.nextId, s.timers, s.requests, s.opState)

section
variable (u : State)

@[simp] theorem timersView_setPor (x : Bool) : (u.setPor x).timersView = u.timersView := rfl
@[simp] theorem timersView_setDrstn (x : Bool) : (u.setDrstn x).timersView = u.timersView := rfl
@[simp] theorem timersView_setReady (x : Bool) : (u.setReady x).timersView = u.timersView := rfl
@[simp] theorem timersView_setRefclkStopped (x : Bool) : (u.setRefclkStopped x).timersView = u.timersView := rfl
@[simp] theorem timersView_setBusReset (x : Bool) : (u.setBusReset x).timersView = u.timersView := rfl
@[simp] theorem timersView_setLastGranted (x : LinkClass) : (u.setLastGranted x).timersView = u.timersView := rfl
@[simp] theorem timersView_setWindows (x : Vector Window 16) : (u.setWindows x).timersView = u.timersView := rfl
@[simp] theorem timersView_setStreams (x : Vector StreamRecord 8) : (u.setStreams x).timersView = u.timersView := rfl
@[simp] theorem timersView_setNq (x : List Notice) : (u.setNq x).timersView = u.timersView := rfl
@[simp] theorem timersView_setNoticesLost (x : Nat) : (u.setNoticesLost x).timersView = u.timersView := rfl
@[simp] theorem timersView_setEl (x : List ErrorRecord) : (u.setEl x).timersView = u.timersView := rfl
@[simp] theorem timersView_setErrorsLost (x : Nat) : (u.setErrorsLost x).timersView = u.timersView := rfl
@[simp] theorem timersView_setCounters (x : Vector Nat 19) : (u.setCounters x).timersView = u.timersView := rfl
@[simp] theorem timersView_setReply (x : Reply) : (u.setReply x).timersView = u.timersView := rfl
@[simp] theorem timersView_setFrameInProgress (x : FrameProgress) : (u.setFrameInProgress x).timersView = u.timersView := rfl
@[simp] theorem timersView_setTbCount (x : Fin 50) : (u.setTbCount x).timersView = u.timersView := rfl
@[simp] theorem timersView_setHeld (x : List HeldEvent) : (u.setHeld x).timersView = u.timersView := rfl
@[simp] theorem timersView_setPortWaiting (x : List PortEvent) : (u.setPortWaiting x).timersView = u.timersView := rfl
@[simp] theorem timersView_setCycleInputs (x : List CycleInput) : (u.setCycleInputs x).timersView = u.timersView := rfl
@[simp] theorem timersView_setAnswers (x : List Answer) : (u.setAnswers x).timersView = u.timersView := rfl
@[simp] theorem timersView_setMisos (x : List Miso) : (u.setMisos x).timersView = u.timersView := rfl
@[simp] theorem timersView_setPending (x : List Instr) : (u.setPending x).timersView = u.timersView := rfl

end

theorem PqEntry.ageDue_congr {x y : PqEntry} (h : y.state = x.state) : y.ageDue = x.ageDue := by
  rw [PqEntry.ageDue, PqEntry.ageDue, h]

theorem PqEntry.isOpen_congr {x y : PqEntry} (h : y.state = x.state) : y.isOpen = x.isOpen := by
  rw [PqEntry.isOpen, PqEntry.isOpen, h]

theorem PrtEntry.timerDue_congr {p q : PrtEntry} (h : p.state = q.state) : p.timerDue = q.timerDue := by
  simp only [PrtEntry.timerDue, PrtEntry.claimDue, PrtEntry.lingerDue, h]

theorem requestSent.mono {t : TagNo} {sent more : List LinkRequest} (h : requestSent t sent) (hsub : sent ⊆ more) :
    requestSent t more :=
  h.imp (fun ⟨l, bytes, hmem⟩ => ⟨l, bytes, hsub hmem⟩) fun ⟨l, hmem⟩ => ⟨l, hsub hmem⟩

/-- Entries that leave, and changes of other fields, keep the PRT apart. -/
theorem ReadsApart.of_sublist {u v : State} (h : ReadsApart u) (hkeys : (v.prt.map PrtEntry.key).Sublist (u.prt.map PrtEntry.key))
    (hid : u.nextId ≤ v.nextId) : ReadsApart v where
  ids := by
    have hsub := hkeys.map Prod.fst
    rw [List.map_map, List.map_map] at hsub
    exact h.ids.sublist hsub
  fresh p hp := by
    obtain ⟨q, hq, hkey⟩ := List.mem_map.mp (hkeys.subset (List.mem_map_of_mem hp))
    have hsame : q.id = p.id := congrArg Prod.fst hkey
    exact Nat.lt_of_lt_of_le (hsame ▸ h.fresh q hq) hid
  lines := by
    have hlines : (u.prt.map PrtEntry.key).Pairwise fun a b => ¬(a.2.1 = b.2.1 ∧ a.2.2 = b.2.2) := List.pairwise_map.mpr h.lines
    exact List.pairwise_map.mp (hlines.sublist hkeys)

namespace TimersFollow

variable {u v w : State}

theorem trans (h : TimersFollow u v) (h' : TimersFollow v w) : TimersFollow u w where
  nextId := h.nextId.trans h'.nextId
  start := h'.start ∘ h.start
  requests := h.requests.trans h'.requests
  opens x hx ho := by
    rcases h'.opens x hx ho with ⟨y, hy, hid, hstate⟩ | ⟨hid, hdue⟩
    · rcases h.opens y hy (PqEntry.isOpen_congr hstate ▸ ho) with ⟨z, hz, hid', hstate'⟩ | ⟨hid', hdue⟩
      · exact .inl ⟨z, hz, hid'.trans hid, hstate'.trans hstate⟩
      · exact .inr ⟨hid ▸ hid', PqEntry.ageDue_congr hstate ▸ hdue⟩
    · exact .inr ⟨h.nextId.trans hid, hdue⟩
  reads q hq := by
    rcases h'.reads q hq with ⟨p, hp, hid⟩ | hid
    · rcases h.reads p hp with ⟨r, hr, hid'⟩ | hid'
      · exact .inl ⟨r, hr, hid'.trans hid⟩
      · exact .inr (hid ▸ hid')
    · exact .inr (h.nextId.trans hid)
  readsDue hs q hq hdue := by
    obtain ⟨p, hp, hpdue⟩ := h'.readsDue (h.start hs) q hq hdue
    exact h.readsDue hs p hp hpdue
  tagsBusy t ht := by
    rcases h'.tagsBusy t ht with hv | hsent
    · exact (h.tagsBusy t hv).imp_right fun hsent => hsent.mono h'.requests.subset
    · exact .inr hsent
  tagsDue hs t ht := h.tagsDue hs t (h'.tagsDue (h.start hs) t ht)
  apart := h'.apart ∘ h.apart

end TimersFollow

namespace DrainFollows

variable {u v w : State}

/-- Outside ONLINE the part stays outside ONLINE. -/
theorem not_online (h : DrainFollows u v) (hu : u.opState ≠ .online) : v.opState ≠ .online := by
  rcases h.moves with hsame | ⟨-, hoff, -⟩
  · rwa [hsame]
  · rw [hoff]
    decide

theorem trans (h : DrainFollows u v) (h' : DrainFollows v w) : DrainFollows u w where
  pq hu hpq := h'.pq (h.not_online hu) (h.pq hu hpq)
  prt hu hprt := h'.prt (h.not_online hu) (h.prt hu hprt)
  moves := by
    rcases h.moves with hsame | ⟨hdrain, hoff, hpq, hprt⟩
    · rw [← hsame]
      exact h'.moves
    · have hv : v.opState ≠ .online := by rw [hoff]; decide
      rcases h'.moves with hkept | ⟨hdrain', -⟩
      · exact .inr ⟨hdrain, hkept.trans hoff, h'.pq hv hpq, h'.prt hv hprt⟩
      · exact absurd (hoff.symm.trans hdrain') (by decide)

theorem of_same (hop : v.opState = u.opState) (hpq : u.pq = [] → v.pq = []) (hprt : u.prt = [] → v.prt = []) :
    DrainFollows u v :=
  ⟨fun _ => hpq, fun _ => hprt, .inl hop⟩

theorem online (h : DrainFollows u v) (hu : u.opState = .online) : v.opState = .online := by
  rcases h.moves with hsame | ⟨hdrain, -⟩
  · rw [hsame, hu]
  · exact absurd (hu.symm.trans hdrain) (by decide)

end DrainFollows

namespace Follows

variable {u v w : State}

theorem trans (h : Follows u v) (h' : Follows v w) : Follows u w :=
  ⟨h.toTimersFollow.trans h'.toTimersFollow, h.toDrainFollows.trans h'.toDrainFollows⟩

theorem of_eq (h : v.timersView = u.timersView) : Follows u v := by
  simp only [State.timersView, Prod.mk.injEq] at h
  obtain ⟨hpq, hprt, htags, hid, htimers, hrequests, hop⟩ := h
  have hstart : u.timersStart → v.timersStart := fun hs => by rwa [State.timersStart, htimers]
  exact
    { nextId := Nat.le_of_eq hid.symm
      start := hstart
      requests := hrequests ▸ List.prefix_rfl
      opens := fun x hx _ => .inl ⟨x, hpq ▸ hx, rfl, rfl⟩
      reads := fun q hq => .inl ⟨q, hprt ▸ hq, rfl⟩
      readsDue := fun _ q hq hdue => ⟨q, hprt ▸ hq, hdue⟩
      tagsBusy := fun t ht => .inl (htags ▸ ht)
      tagsDue := fun _ t ht => htags ▸ ht
      apart := fun h => h.of_sublist (by rw [hprt]) (Nat.le_of_eq hid.symm)
      pq := fun _ hu => hpq.trans hu
      prt := fun _ hu => hprt.trans hu
      moves := .inl hop }

theorem refl (u : State) : Follows u u :=
  of_eq rfl

theorem foldl {α : Type} {f : State → α → State} (h : ∀ a u, Follows u (f u a)) (l : List α) (u : State) :
    Follows u (l.foldl f u) := by
  induction l generalizing u with
  | nil => exact refl u
  | cons a l ih => exact (h a u).trans (ih _)

/-- The PQ changes: each OPEN entry of the new queue is OPEN in the old one, with the same age. -/
theorem setPq (u : State) {q : List PqEntry} (hnil : u.pq = [] → q = [])
    (h : ∀ x ∈ q, x.isOpen = true → ∃ y ∈ u.pq, y.id = x.id ∧ y.state = x.state) : Follows u (u.setPq q) :=
  { refl u with
    opens := fun x hx ho => .inl (h x hx ho)
    apart := fun h => ⟨h.ids, h.fresh, h.lines⟩
    pq := fun _ => hnil
    moves := .inl rfl }

theorem setPq_sublist (u : State) {q : List PqEntry} (h : q.Sublist u.pq) : Follows u (u.setPq q) :=
  setPq u (fun hu => List.sublist_nil.mp (hu ▸ h)) fun x hx _ => ⟨x, h.subset hx, rfl, rfl⟩

theorem setPq_map (u : State) {f : PqEntry → PqEntry}
    (h : ∀ e ∈ u.pq, (f e).id = e.id ∧ ((f e).isOpen = true → (f e).state = e.state)) : Follows u (u.setPq (u.pq.map f)) := by
  refine setPq u (fun hu => by rw [hu, List.map_nil]) fun x hx ho => ?_
  obtain ⟨e, he, rfl⟩ := List.mem_map.mp hx
  exact ⟨e, he, (h e he).1.symm, ((h e he).2 ho).symm⟩

/-- The PRT changes: entries leave or change, and a timer that is due was due before. -/
theorem setPrt (u : State) {x : List PrtEntry} (hnil : u.prt = [] → x = [])
    (hkeys : (x.map PrtEntry.key).Sublist (u.prt.map PrtEntry.key))
    (hdue : u.timersStart → ∀ q ∈ x, q.timerDue = true → ∃ p ∈ u.prt, p.timerDue = true) : Follows u (u.setPrt x) :=
  { refl u with
    reads := fun q hq => by
      obtain ⟨p, hp, hkey⟩ := List.mem_map.mp (hkeys.subset (List.mem_map_of_mem hq))
      exact .inl ⟨p, hp, congrArg Prod.fst hkey⟩
    readsDue := hdue
    apart := fun h => h.of_sublist hkeys Nat.le.refl
    prt := fun _ => hnil
    moves := .inl rfl }

theorem setPrt_sublist (u : State) {x : List PrtEntry} (h : x.Sublist u.prt) : Follows u (u.setPrt x) :=
  setPrt u (fun hu => List.sublist_nil.mp (hu ▸ h)) (h.map _) fun _ q hq hdue => ⟨q, h.subset hq, hdue⟩

theorem setPrt_map (u : State) {f : PrtEntry → PrtEntry}
    (h : ∀ p ∈ u.prt, (f p).key = p.key ∧ (u.timersStart → (f p).timerDue = true → p.timerDue = true)) :
    Follows u (u.setPrt (u.prt.map f)) := by
  refine setPrt u (fun hu => by rw [hu, List.map_nil]) ?_ fun hs q hq hdue => ?_
  · have hsame : (u.prt.map f).map PrtEntry.key = u.prt.map PrtEntry.key := by
      rw [List.map_map]
      exact List.map_congr_left fun p hp => (h p hp).1
    rw [hsame]
  · obtain ⟨p, hp, rfl⟩ := List.mem_map.mp hq
    exact ⟨p, hp, (h p hp).2 hs hdue⟩

/-- The tags change: each BUSY tag was BUSY before, with its timer. -/
theorem setTags (u : State) {x : Vector Tag 16} (h : ∀ t : TagNo, x[t].isBusy = true → x[t] = u.tags[t]) :
    Follows u (u.setTags x) :=
  { refl u with
    tagsBusy := fun t ht => .inl (h t ht ▸ ht)
    tagsDue := fun _ t ht => by
      have hbusy : x[t].isBusy = true := by
        change x[t].due = true at ht
        revert ht
        cases x[t] <;> simp [Tag.due, Tag.isBusy]
      exact h t hbusy ▸ ht
    apart := fun h => ⟨h.ids, h.fresh, h.lines⟩
    moves := .inl rfl }

end Follows

/-! ### The expiries that are due, kind by kind -/

/-- R81: the memory time-outs that are due, tag after tag. -/
def lapseTags (s : State) : State :=
  allTags.foldl (fun acc t => expireMemory t acc) s

/-- R15: the combine age expiries that are due, stream after stream. -/
def sealAged (s : State) : State :=
  allStreams.foldl (fun acc i => expireCombineAge i acc) s

/-- R60: the claim time-outs that are due on the streams and lines of the entries of a list. -/
def freeUnclaimed (l : List PrtEntry) (s : State) : State :=
  l.foldl (fun acc p => expireClaim p.stream p.line acc) s

/-- R61: the linger expiries that are due on the streams and lines of the entries of a list. -/
def freeLingered (l : List PrtEntry) (s : State) : State :=
  l.foldl (fun acc p => expireLinger p.stream p.line acc) s

/-- R162: what is due expires, kind after kind. -/
theorem takeDueExpiries_eq (s : State) :
    takeDueExpiries s =
      freeLingered (freeUnclaimed (sealAged (lapseTags s)).prt (sealAged (lapseTags s))).prt
        (freeUnclaimed (sealAged (lapseTags s)).prt (sealAged (lapseTags s))) := rfl

/-! ### Counters, reports, answers and streams -/

section
variable (u : State)

theorem follows_bump (c : Counter) : Follows u (bump c u) := .of_eq rfl

theorem follows_offerError (r : ErrorRecord) : Follows u (offerError r u) := by
  rw [offerError_frame]
  exact .of_eq rfl

theorem follows_noticeOfLeaving (e : PqEntry) (o : ReleaseOutcome) : Follows u (noticeOfLeaving e o u) := by
  rw [noticeOfLeaving_frame]
  exact .of_eq rfl

theorem follows_answerAccept : Follows u (answerAccept u) := .of_eq rfl
theorem follows_answerRetry (r : RetryReason) : Follows u (answerRetry r u) := .of_eq rfl
theorem follows_answerData (bytes : List Byte) : Follows u (answerData bytes u) := .of_eq rfl
theorem follows_answerAbort : Follows u (answerAbort u) := .of_eq rfl
theorem follows_setStreams (x : Vector StreamRecord 8) : Follows u (u.setStreams x) := .of_eq rfl

/-! ### Seals, the drain and the PRT -/

theorem follows_sealWhere (cause : PqEntry → Bool) : Follows u (sealWhere cause u) := by
  refine (Follows.setPq_map u fun e _ => ?_).trans (follows_setStreams _ _)
  split
  · exact ⟨e.toSealed_id, fun ho => absurd (e.toSealed_isOpen.symm.trans ho) (by decide)⟩
  · exact ⟨rfl, fun _ => rfl⟩

theorem follows_checkDrain : Follows u (checkDrain u) := by
  rcases checkDrain_cases u with ⟨hop, hpq, hprt, h⟩ | ⟨-, h⟩ <;> rw [h]
  · exact
      { Follows.refl u with
        apart := fun h => ⟨h.ids, h.fresh, h.lines⟩
        pq := fun _ hu => hu
        prt := fun _ hu => hu
        moves := .inr ⟨hop, rfl, hpq, hprt⟩ }
  · exact .refl u

theorem follows_freePrt (id : Nat) : Follows u (freePrt id u) :=
  (Follows.setPrt_sublist u List.eraseP_sublist).trans (follows_checkDrain _)

/-- A timer that starts below its limit is not due. -/
theorem Timer.start_due {n : Nat} (h : 1 ≤ n) : (Timer.start n).due = false := by
  simp [Timer.start, Timer.due]
  omega

/-- R58, R59: the claim timer starts. -/
theorem follows_parkFetched (id : Nat) (r : Fetched) : Follows u (parkFetched id r u) := by
  refine Follows.setPrt_map u fun p _ => ?_
  split
  · refine ⟨rfl, fun hs hdue => ?_⟩
    simp [PrtEntry.timerDue, PrtEntry.claimDue, PrtEntry.lingerDue, Timer.start_due hs.1] at hdue
  · exact ⟨rfl, fun _ hdue => hdue⟩

theorem PrtEntry.metByWrite_key (p : PrtEntry) : p.metByWrite.key = p.key := by
  unfold PrtEntry.metByWrite; split <;> rfl

theorem PrtEntry.metByWrite_state (p : PrtEntry) : p.metByWrite.state = p.state := by
  unfold PrtEntry.metByWrite; split <;> rfl

/-- R62: entries are freed or lose their read-ahead. -/
theorem follows_writeMeetsPrt (l : Line) : Follows u (writeMeetsPrt l u) := by
  have hfreed := Follows.setPrt_sublist u (List.filter_sublist (p := fun p => !(p.line == l && p.isLingering)))
  refine hfreed.trans (Follows.setPrt_map _ fun p _ => ?_)
  split
  · exact ⟨p.metByWrite_key, fun _ hdue => PrtEntry.timerDue_congr p.metByWrite_state ▸ hdue⟩
  · exact ⟨rfl, fun _ => id⟩

/-! ### Entries that leave the PQ -/

theorem PrtEntry.withoutHazards_key (gone : List Nat) (p : PrtEntry) : (p.withoutHazards gone).key = p.key := by
  unfold PrtEntry.withoutHazards; split <;> rfl

theorem PrtEntry.withoutHazards_timerDue (gone : List Nat) (p : PrtEntry) : (p.withoutHazards gone).timerDue = p.timerDue := by
  obtain ⟨id, i, l, o, n, ra, st⟩ := p
  cases st <;> rfl

theorem follows_withoutHazards (gone : List Nat) : Follows u (u.setPrt (u.prt.map (PrtEntry.withoutHazards gone))) :=
  Follows.setPrt_map u fun p _ => ⟨p.withoutHazards_key gone, fun _ hdue => p.withoutHazards_timerDue gone ▸ hdue⟩

theorem follows_leavePq (id : Nat) : Follows u (leavePq id u) :=
  (Follows.setPq_sublist u List.eraseP_sublist).trans (follows_withoutHazards _ _)

theorem follows_voidPass : Follows u (voidPass u) := by
  obtain ⟨rest, hrest, hsub⟩ := voidScan_kept u.streams u.pq []
  rw [List.nil_append] at hrest
  have hleft : Follows u (u.setPq (voidScan u.streams [] u.pq).1) := Follows.setPq_sublist u (hrest ▸ hsub)
  exact (hleft.trans (follows_withoutHazards _ _)).trans
    (Follows.foldl (fun e v => (follows_bump v _).trans (follows_noticeOfLeaving _ e _)) _ _)

theorem follows_afterLeaving : Follows u (afterLeaving u) :=
  (follows_voidPass u).trans (follows_checkDrain _)

theorem follows_countReleased (e : PqEntry) : Follows u (countReleased e u) := by
  unfold countReleased
  split
  · exact follows_bump ..
  · exact .refl u

theorem follows_retireEntry (e : PqEntry) : Follows u (retireEntry e u) :=
  ((((follows_leavePq u e.id).trans (follows_bump ..)).trans (follows_countReleased _ e)).trans
    (follows_noticeOfLeaving _ e _)).trans (follows_afterLeaving _)

theorem follows_markFault (i : StreamNo) : Follows u (markFault i u) :=
  ((follows_setStreams u _).trans (Follows.setPq_map _ fun e _ => ⟨e.voidMarkedBy_id i, fun _ => e.voidMarkedBy_state i⟩)).trans
    (follows_bump ..)

theorem follows_failEntry (e : PqEntry) : Follows u (failEntry e u) :=
  ((((follows_leavePq u e.id).trans (follows_bump ..)).trans (follows_markFault _ e.stream)).trans
    (follows_noticeOfLeaving _ e _)).trans (follows_afterLeaving _)

/-! ### Tags, responses and expiries -/

theorem follows_setTag (t : TagNo) {r : Tag} (h : r.isBusy = false) : Follows u (setTag t r u) := by
  refine Follows.setTags u fun k hk => ?_
  have hget := setTag_get t k r u
  rw [setTag, State.setTags_tags] at hget
  rw [hget] at hk ⊢
  split at hk
  · exact absurd (h.symm.trans hk) (by decide)
  · rename_i hne
    exact if_neg hne

theorem follows_lateResponse (t : TagNo) : Follows u (lateResponse t u) :=
  (follows_setTag u t rfl).trans (follows_offerError _ _)

theorem follows_endWrite (t : TagNo) (id : Nat) (st : ResponseStatus) : Follows u (endWrite t id st u) := by
  unfold endWrite
  split
  · exact follows_retireEntry u _
  · exact (follows_offerError u _).trans (follows_failEntry _ _)
  · exact .refl u

theorem follows_takeWriteResponse (t : TagNo) (st : ResponseStatus) : Follows u (takeWriteResponse t st u) := by
  unfold takeWriteResponse
  split
  · exact (follows_setTag u t rfl).trans (follows_endWrite _ t _ st)
  · exact follows_offerError u _
  · exact follows_offerError u _
  · exact follows_lateResponse u t
  · exact follows_offerError u _

theorem follows_endFetch (t : TagNo) (id : Nat) (r : ReadResult) : Follows u (endFetch t id r u) := by
  unfold endFetch
  split
  · exact follows_parkFetched u _ _
  · exact (follows_offerError u _).trans (follows_parkFetched _ _ _)
  · exact .refl u

theorem follows_takeReadResponse (t : TagNo) (r : ReadResult) : Follows u (takeReadResponse t r u) := by
  unfold takeReadResponse
  split
  · exact (follows_setTag u t rfl).trans (follows_endFetch _ t _ r)
  · exact follows_setTag u t rfl
  · exact follows_offerError u _
  · exact follows_lateResponse u t
  · exact follows_offerError u _

theorem follows_expireClaim (i : StreamNo) (l : Line) : Follows u (expireClaim i l u) := by
  rcases expireClaim_cases i l u with h | ⟨p, -, -, -, -, h⟩ <;> rw [h]
  · exact .refl u
  · exact ((follows_offerError u _).trans (follows_bump ..)).trans (follows_freePrt _ _)

theorem follows_expireLinger (i : StreamNo) (l : Line) : Follows u (expireLinger i l u) := by
  rcases expireLinger_cases i l u with h | ⟨p, -, -, -, -, h⟩ <;> rw [h]
  · exact .refl u
  · exact follows_freePrt u _

theorem follows_recordExhausted : Follows u (recordExhausted u) := by
  unfold recordExhausted
  split
  · exact follows_offerError u _
  · exact .refl u

theorem follows_tellOwnerLapsed (t : TagNo) (o : Owner) : Follows u (tellOwnerLapsed t o u) := by
  unfold tellOwnerLapsed
  split
  · split
    · exact (follows_offerError u _).trans (follows_failEntry _ _)
    · exact .refl u
  · split
    · exact (follows_offerError u _).trans (follows_parkFetched _ _ _)
    · exact .refl u
  · exact .refl u

theorem follows_expireMemory (t : TagNo) : Follows u (expireMemory t u) := by
  rcases expireMemory_cases t u with h | ⟨o, timer, -, -, h⟩ <;> rw [h]
  · exact .refl u
  · exact (((follows_setTag u t rfl).trans (follows_bump ..)).trans (follows_tellOwnerLapsed _ t o)).trans
      (follows_recordExhausted _)

theorem follows_lapseTags : Follows u (lapseTags u) :=
  Follows.foldl (fun t v => follows_expireMemory v t) allTags u

theorem follows_sealAged : Follows u (sealAged u) :=
  Follows.foldl (fun i v => follows_sealWhere v fun e => e.stream == i && e.ageDue) allStreams u

theorem follows_freeUnclaimed (l : List PrtEntry) : Follows u (freeUnclaimed l u) :=
  Follows.foldl (fun (p : PrtEntry) v => follows_expireClaim v p.stream p.line) l u

theorem follows_freeLingered (l : List PrtEntry) : Follows u (freeLingered l u) :=
  Follows.foldl (fun (p : PrtEntry) v => follows_expireLinger v p.stream p.line) l u

theorem follows_takeDueExpiries : Follows u (takeDueExpiries u) := by
  rw [takeDueExpiries_eq]
  exact (((follows_lapseTags u).trans (follows_sealAged _)).trans (follows_freeUnclaimed _ _)).trans (follows_freeLingered _ _)

/-! ### Grants -/

/-- R73: a tag becomes BUSY as its request is sent, with its timer at 0. -/
theorem follows_grantTag (t : TagNo) (o : Owner) {r : LinkRequest} (hr : requestSent t [r]) :
    Follows u (sendRequest r (setTag t (.busy o (Timer.start u.timers.memTimeout)) u)) := by
  have hget := fun k => setTag_get t k (.busy o (Timer.start u.timers.memTimeout)) u
  exact
    { Follows.refl u with
      requests := List.prefix_append ..
      tagsBusy := fun k hk => by
        change (setTag t (.busy o (Timer.start u.timers.memTimeout)) u).tags[k].isBusy = true at hk
        rw [hget] at hk
        split at hk
        · rename_i heq
          exact .inr (heq ▸ hr.mono (List.subset_append_right ..))
        · exact .inl hk
      apart := fun h => ⟨h.ids, h.fresh, h.lines⟩
      tagsDue := fun hs k hk => by
        change (setTag t (.busy o (Timer.start u.timers.memTimeout)) u).tags[k].due = true at hk
        rw [hget] at hk
        split at hk
        · exact absurd ((Timer.start_due hs.2.2).symm.trans hk) (by decide)
        · exact hk
      pq := fun _ hu => hu
      prt := fun _ hu => hu
      moves := .inl rfl }

theorem follows_grantWrite (t : TagNo) (e : PqEntry) : Follows u (grantWrite t e u) := by
  have hsent := follows_grantTag u t (.pqEntry e.id) (r := .writeRequest t e.line e.bytes) (.inl ⟨_, _, List.mem_singleton_self _⟩)
  refine (hsent.trans (Follows.setPq_map _ (f := fun x => if x.id = e.id then { x with state := .issued t } else x)
    fun x _ => ?_)).trans (.of_eq rfl)
  split
  · exact ⟨rfl, nofun⟩
  · exact ⟨rfl, fun _ => rfl⟩

theorem follows_grantRead (t : TagNo) (p : PrtEntry) : Follows u (grantRead t p u) := by
  have hsent := follows_grantTag u t (.prtEntry p.id) (r := .readRequest t p.line) (.inr ⟨_, List.mem_singleton_self _⟩)
  refine (hsent.trans (Follows.setPrt_map _ (f := fun q => if q.id = p.id then { q with state := .fetching t } else q)
    fun q _ => ?_)).trans (.of_eq rfl)
  split
  · exact ⟨rfl, nofun⟩
  · exact ⟨rfl, fun _ => id⟩

theorem follows_grantOnce : Follows u (grantOnce u) := by
  rcases grantOnce_cases u with ⟨-, h⟩ | ⟨-, t, -, ⟨e, -, h⟩ | ⟨p, -, h⟩⟩ <;> rw [h]
  · exact .refl u
  · exact follows_grantWrite u t e
  · exact follows_grantRead u t p

theorem follows_takeDueGrants : Follows u (takeDueGrants u) :=
  Follows.foldl (fun _ v => follows_grantOnce v) allTags u

theorem follows_takeDue : Follows u (takeDue u) :=
  (follows_takeDueExpiries u).trans (follows_takeDueGrants _)

/-! ### WRITE -/

variable (i : StreamNo) (l : Line) (bytes : ByteSet)

theorem follows_mergeInto (e : PqEntry) : Follows u (mergeInto e bytes u) := by
  have hmerged : Follows u (bump .writesMerged (u.setPq (u.pq.map fun x =>
      if x.id = e.id then { x with bytes := mergeBytes e.bytes bytes } else x))) := by
    refine (Follows.setPq_map u fun x _ => ?_).trans (follows_bump ..)
    split
    · exact ⟨rfl, fun _ => rfl⟩
    · exact ⟨rfl, fun _ => rfl⟩
  unfold mergeInto
  dsimp only
  split
  · exact hmerged.trans (follows_sealWhere ..)
  · exact hmerged

/-- R1: in ONLINE an entry joins the PQ with a new id. -/
theorem follows_appendEntry (honline : u.opState = .online) (kind : EntryKind) {state : EntryState}
    (hstate : ∀ age : Timer, state = .opened age → age.due = false) : Follows u (appendEntry i l bytes kind state u) :=
  { Follows.refl u with
    nextId := Nat.le_succ _
    opens := fun x hx _ => by
      rcases List.mem_append.mp hx with hold | hnew
      · exact .inl ⟨x, hold, rfl, rfl⟩
      · rw [List.mem_singleton.mp hnew]
        refine .inr ⟨Nat.le.refl, ?_⟩
        unfold PqEntry.ageDue
        split
        · exact hstate _ ‹_›
        · rfl
        · rfl
    apart := fun h => h.of_sublist (List.Sublist.refl _) (Nat.le_succ _)
    pq := fun hne => absurd honline hne
    prt := fun hne => absurd honline hne
    moves := .inl rfl }

theorem follows_appendFor (honline : u.opState = .online) (tr : WriteTreatment) (w : WindowNo) (notify : Bool) :
    Follows u (appendFor tr i l bytes w notify u) := by
  cases tr with
  | post => exact follows_appendEntry u i l bytes honline _ nofun
  | release => exact follows_appendEntry u i l bytes honline _ nofun
  | refuse => exact .refl u
  | merge =>
    dsimp only [appendFor, appendMerge]
    split
    · exact (follows_appendEntry u i l bytes honline _ (state := .sealed) nofun).trans (follows_setStreams _ _)
    · rename_i hage
      refine (follows_appendEntry u i l bytes honline _ fun age h => ?_).trans (follows_setStreams _ _)
      cases h
      exact Timer.start_due (Nat.one_le_iff_ne_zero.mpr fun h0 => hage (.inl h0))

theorem follows_postNewEntry (honline : u.opState = .online) (tr : WriteTreatment) (w : WindowNo) (notify : Bool) :
    Follows u (postNewEntry tr i l bytes w notify u) := by
  unfold postNewEntry
  split
  · have hsealed : Follows u (sealsBeforeAppend i l u) := (follows_sealWhere u _).trans (follows_sealWhere _ _)
    exact (((hsealed.trans (follows_appendFor _ i l bytes (hsealed.online honline) tr w notify)).trans
      (follows_writeMeetsPrt _ l)).trans (follows_voidPass _)).trans (follows_answerAccept _)
  · exact follows_answerRetry u _

theorem follows_postWrite (honline : u.opState = .online) (tr : WriteTreatment) (w : WindowNo) (notify : Bool) :
    Follows u (postWrite tr i l bytes w notify u) := by
  unfold postWrite
  split
  · exact ((follows_mergeInto u bytes _).trans (follows_writeMeetsPrt _ l)).trans (follows_answerAccept _)
  · exact follows_postNewEntry u i l bytes honline _ w notify

theorem follows_checkStateAndHold {work : State → State} (h : u.opState = .online → Follows u (work u)) :
    Follows u (checkStateAndHold i work u) := by
  unfold checkStateAndHold
  split
  · exact follows_answerRetry u _
  · rename_i honline
    split
    · exact follows_answerRetry u _
    · exact h (not_not.mp honline)

theorem follows_abort (r : ErrorRecord) : Follows u (answerAbort (offerError r u)) :=
  (follows_offerError u r).trans (follows_answerAbort _)

theorem follows_writeTransaction (a : Address) (data : List Byte) : Follows u (writeTransaction i a data u) := by
  unfold writeTransaction
  split
  · exact follows_abort u _
  · split
    · exact follows_abort u _
    · split
      · exact follows_abort u _
      · exact follows_checkStateAndHold u i fun honline => follows_postWrite u i _ _ honline _ _ _

/-! ### READ -/

theorem follows_claimParked (p : PrtEntry) (line : LineData) (o : Offset) (n : Nat) : Follows u (claimParked p line o n u) := by
  unfold claimParked
  split
  · refine (Follows.setPrt_map u fun q _ => ?_).trans (follows_answerData _ _)
    split
    · refine ⟨rfl, fun hs hdue => ?_⟩
      simp [PrtEntry.timerDue, PrtEntry.claimDue, PrtEntry.lingerDue, Timer.start_due hs.2.1] at hdue
    · exact ⟨rfl, fun _ => id⟩
  · exact (follows_freePrt u _).trans (follows_answerData _ _)

theorem follows_serveMatch (p : PrtEntry) (o : Offset) (n : Nat) : Follows u (serveMatch p o n u) := by
  unfold serveMatch
  split
  · exact follows_answerRetry u _
  · exact follows_answerRetry u _
  · exact (follows_freePrt u _).trans (follows_answerAbort _)
  · exact follows_claimParked u p _ o n
  · exact (follows_answerData u _).trans (follows_bump ..)

/-- R55: in ONLINE a read parks with a new id, on a stream and line that no entry has. -/
theorem follows_parkRead (honline : u.opState = .online) (hfree : ∀ p ∈ u.prt, ¬(p.stream = i ∧ p.line = l)) (rt : ReadTreatment)
    (o : Offset) (n : Nat) : Follows u (parkRead rt i l o n u) := by
  have hparked (p : PrtEntry) (hid : p.id = u.nextId) (hstream : p.stream = i) (hline : p.line = l)
      (hstate : p.timerDue = false) : Follows u ((u.setPrt (u.prt ++ [p])).setNextId (u.nextId + 1)) :=
    { Follows.refl u with
      nextId := Nat.le_succ _
      reads := fun q hq => by
        rcases List.mem_append.mp hq with hold | hnew
        · exact .inl ⟨q, hold, rfl⟩
        · exact .inr (List.mem_singleton.mp hnew ▸ hid ▸ Nat.le.refl)
      readsDue := fun _ q hq hdue => by
        rcases List.mem_append.mp hq with hold | hnew
        · exact ⟨q, hold, hdue⟩
        · rw [List.mem_singleton.mp hnew, hstate] at hdue
          cases hdue
      apart := fun h =>
        { ids := by
            rw [State.setNextId_prt, State.setPrt_prt, List.map_append, List.map_singleton, hid]
            refine List.nodup_append.mpr ⟨h.ids, List.nodup_singleton _, fun a ha b hb => ?_⟩
            obtain ⟨q, hq, rfl⟩ := List.mem_map.mp ha
            exact List.mem_singleton.mp hb ▸ Nat.ne_of_lt (h.fresh q hq)
          fresh := fun q hq => by
            rcases List.mem_append.mp hq with hold | hnew
            · exact Nat.lt_succ_of_lt (h.fresh q hold)
            · rw [List.mem_singleton.mp hnew, hid]
              exact Nat.lt_succ_self _
          lines := List.pairwise_append.mpr ⟨h.lines, List.pairwise_singleton .., fun q hq r hr => by
            rw [List.mem_singleton.mp hr, hstream, hline]
            exact hfree q hq⟩ }
      pq := fun _ hu => hu
      prt := fun hne => absurd honline hne
      moves := .inl rfl }
  exact ((hparked _ rfl rfl rfl rfl).trans (follows_sealWhere _ _)).trans (follows_answerRetry _ _)

theorem follows_parkRequest (honline : u.opState = .online) (rt : ReadTreatment) (o : Offset) (n : Nat) :
    Follows u (parkRequest rt i l o n u) := by
  unfold parkRequest
  split
  · exact follows_answerRetry u _
  · rename_i hfree
    rw [prtEntryAt_isSome_iff] at hfree
    have hnone : ∀ p ∈ u.prt, ¬(p.stream = i ∧ p.line = l) := fun p hp hkey => hfree ⟨p, hp, hkey⟩
    split
    · exact follows_parkRead u i l honline hnone rt o n
    · split
      · rename_i p _
        have hfreed := follows_freePrt u p.id
        refine hfreed.trans (follows_parkRead _ i l (hfreed.online honline) (fun q hq => ?_) rt o n)
        rw [freePrt_frame] at hq
        exact hnone q (List.mem_of_mem_eraseP hq)
      · exact follows_answerRetry u _

theorem follows_readTransaction (a : Address) (n : Nat) : Follows u (readTransaction i a n u) := by
  unfold readTransaction
  split
  · exact follows_abort u _
  · split
    · exact follows_abort u _
    · split
      · exact follows_abort u _
      · split
        · exact follows_serveMatch u _ _ n
        · exact follows_checkStateAndHold u i fun honline => follows_parkRequest u i _ honline _ _ n

end

end Sys2Proof.Machine

/-! ## The rows of the management port and the held events, by the same relations; the moves of the operating state (R119, R123, R162). -/

namespace Sys2Proof.Machine

/-! ### Rows of the management port -/

section
variable (u : State)

/-- R155: a timer item that is written is in its range. -/
theorem follows_setTimers {x : TimerItems} (h : u.timersStart → (u.setTimers x).timersStart) : Follows u (u.setTimers x) :=
  { Follows.refl u with
    start := h
    apart := fun h => ⟨h.ids, h.fresh, h.lines⟩
    pq := fun _ hu => hu
    prt := fun _ hu => hu
    moves := .inl rfl }

theorem follows_writeTimer (k : TimerItem) (data : List Byte) : Follows u (writeTimer k data u).1 := by
  unfold writeTimer
  split
  · exact .refl u
  · split
    · rename_i hrange
      refine follows_setTimers u fun ⟨hclaim, hlinger, hmem⟩ => ?_
      cases k with
      | combineAge => exact ⟨hclaim, hlinger, hmem⟩
      | claimTime =>
        simp only [timerInRange, Bool.and_eq_true, decide_eq_true_eq] at hrange
        exact ⟨hrange.1, hlinger, hmem⟩
      | lingerTime =>
        simp only [timerInRange, Bool.and_eq_true, decide_eq_true_eq] at hrange
        exact ⟨hclaim, hrange.1, hmem⟩
      | memTimeout =>
        simp only [timerInRange, Bool.and_eq_true, decide_eq_true_eq] at hrange
        exact ⟨hclaim, hlinger, (by decide : 1 ≤ 10).trans hrange.1⟩
    · exact .refl u

theorem follows_writeWindow (w : WindowNo) (data : List Byte) : Follows u (writeWindow w data u).1 := by
  unfold writeWindow
  split
  · exact .refl u
  · split <;> exact .of_eq rfl

theorem follows_writeOrderMode (i : StreamNo) (data : List Byte) : Follows u (writeOrderMode i data u).1 := by
  unfold writeOrderMode
  split
  · split
    · exact .refl u
    · split <;> exact .of_eq rfl
  · exact .refl u

theorem follows_writeItemAction (r : FrameRequest) : Follows u (writeItemAction r u).1 := by
  unfold writeItemAction
  split
  · exact follows_writeTimer ..
  · exact follows_writeWindow ..
  · exact follows_writeOrderMode ..
  all_goals exact .refl u

/-- R84: a LAPSED tag becomes FREE. -/
theorem follows_freeLapsedAction (r : FrameRequest) : Follows u (freeLapsedAction r u).1 := by
  refine Follows.setTags u fun t ht => ?_
  rw [Fin.getElem_fin, Vector.getElem_ofFn] at ht ⊢
  change (Tag.freedIfLapsed u.tags[t]).isBusy = true at ht
  change Tag.freedIfLapsed u.tags[t] = u.tags[t]
  revert ht
  cases u.tags[t] <;> simp [Tag.freedIfLapsed, Tag.isBusy]

/-- R119: a row but START and STOP. -/
theorem follows_rowAction {c : Instr} (r : FrameRequest) (hstart : ∀ tail, c ≠ .start tail) (hstop : ∀ tail, c ≠ .stop tail) :
    Follows u (rowAction c r u).1 := by
  cases c with
  | start tail => exact absurd rfl (hstart tail)
  | stop tail => exact absurd rfl (hstop tail)
  | writeItem => exact follows_writeItemAction u r
  | writeItemWindow w => exact follows_writeWindow u w _
  | writeItemTimer k => exact follows_writeTimer u k _
  | writeItemOrderMode i => exact follows_writeOrderMode u i _
  | readItem =>
    dsimp only [rowAction, readItemAction]
    split <;> exact .refl u
  | clear =>
    dsimp only [rowAction, clearAction]
    split
    · exact .of_eq (by simp [clearAll_eq])
    · exact .refl u
    · exact .refl u
  | hold => exact (follows_sealWhere u _).trans (follows_setStreams _ _)
  | takeNotice =>
    dsimp only [rowAction, takeNoticeAction]
    split <;> exact .of_eq rfl
  | takeErrorRecordForm =>
    dsimp only [rowAction, takeErrorAction, takeRecord, takeLostCount]
    split
    · split <;> exact .of_eq rfl
    · split <;> exact .of_eq rfl
  | freeLapsed => exact follows_freeLapsedAction u r
  | _ => exact .of_eq rfl

/-- A move of the operating state by itself starts no timer. -/
theorem timersFollow_setOpState (x : OpState) : TimersFollow u (u.setOpState x) :=
  { Follows.refl u with apart := fun h => ⟨h.ids, h.fresh, h.lines⟩ }

theorem follows_sealAll : Follows u (sealAll u) := by
  refine (Follows.setPq_map u fun e _ => ⟨e.toSealed_id, fun ho => ?_⟩).trans (follows_setStreams _ _)
  exact absurd (e.toSealed_isOpen.symm.trans ho) (by decide)

/-- R122: what STOP seals and frees, once the part is DRAINING. -/
theorem follows_stop :
    Follows u (checkDrain ((sealAll u).setPrt ((sealAll u).prt.filter fun p => !p.isLingering))) :=
  ((follows_sealAll u).trans (Follows.setPrt_sublist _ List.filter_sublist)).trans (follows_checkDrain _)

theorem timersFollow_rowAction (c : Instr) (r : FrameRequest) : TimersFollow u (rowAction c r u).1 := by
  by_cases hstart : ∃ tail, c = .start tail
  · obtain ⟨tail, rfl⟩ := hstart
    dsimp only [rowAction, startAction]
    split
    · exact timersFollow_setOpState u _
    · exact (Follows.refl u).toTimersFollow
    · exact (Follows.refl u).toTimersFollow
  by_cases hstop : ∃ tail, c = .stop tail
  · obtain ⟨tail, rfl⟩ := hstop
    dsimp only [rowAction, stopAction]
    split
    · exact (timersFollow_setOpState u _).trans (follows_stop _).toTimersFollow
    · exact (Follows.refl u).toTimersFollow
    · exact (Follows.refl u).toTimersFollow
  · exact (follows_rowAction u r (not_exists.mp hstart) (not_exists.mp hstop)).toTimersFollow

/-! ### Held events -/

theorem follows_setReply (x : Reply) : Follows u (u.setReply x) := .of_eq (timersView_setReply u x)

theorem timersFollow_takeFrame (c : Instr) (f : Frame) : TimersFollow u (takeFrame c f u) := by
  rcases takeFrame_cases c f u with ⟨-, h⟩ | ⟨r, -, h⟩ <;> rw [h]
  · exact (follows_setReply u _).toTimersFollow
  · exact (timersFollow_rowAction u c r).trans (follows_setReply _ _).toTimersFollow

theorem follows_takeFrame {c : Instr} (f : Frame) (hstart : ∀ tail, c ≠ .start tail) (hstop : ∀ tail, c ≠ .stop tail) :
    Follows u (takeFrame c f u) := by
  rcases takeFrame_cases c f u with ⟨-, h⟩ | ⟨r, -, h⟩ <;> rw [h]
  · exact follows_setReply u _
  · exact (follows_rowAction u r hstart hstop).trans (follows_setReply _ _)

theorem follows_holdFrameEnd (c : Instr) (f : Frame) : Follows u (holdFrameEnd c f u) := by
  rcases holdFrameEnd_cases c f u with ⟨-, h⟩ | ⟨-, h⟩ <;> rw [h] <;> exact .of_eq (by simp [holdEvent, frameEnded])

theorem follows_resumePort (events : List PortEvent) : Follows u (resumePort events u) := by
  induction events generalizing u with
  | nil => exact .of_eq (timersView_setPortWaiting u _)
  | cons e rest ih =>
    cases e with
    | edge e => exact (Follows.of_eq (timersView_setFrameInProgress u _)).trans (ih _)
    | frameEnd c =>
      unfold resumePort
      split
      · exact (follows_holdFrameEnd u c _).trans (.of_eq (timersView_setPortWaiting _ _))
      · exact ih u

theorem timersFollow_takeEvent (x : HeldEvent) : TimersFollow u (takeEvent x u) := by
  unfold takeEvent
  split
  · exact ((follows_setReply u _).trans (follows_resumePort _ _)).toTimersFollow
  · exact (follows_writeTransaction ..).toTimersFollow
  · exact (follows_readTransaction ..).toTimersFollow
  · exact (follows_takeWriteResponse ..).toTimersFollow
  · exact (follows_takeReadResponse ..).toTimersFollow
  · unfold takeHeldFrame
    split
    · exact (timersFollow_takeFrame u _ _).trans (follows_resumePort _ _).toTimersFollow
    · exact (Follows.refl u).toTimersFollow

theorem follows_takeEvent {x : HeldEvent} (hstart : ∀ tail, x.command ≠ some (.start tail))
    (hstop : ∀ tail, x.command ≠ some (.stop tail)) : Follows u (takeEvent x u) := by
  unfold takeEvent
  split
  · exact (follows_setReply u _).trans (follows_resumePort _ _)
  · exact follows_writeTransaction ..
  · exact follows_readTransaction ..
  · exact follows_takeWriteResponse ..
  · exact follows_takeReadResponse ..
  · rename_i c _ _ _ _
    unfold takeHeldFrame
    split
    · exact (follows_takeFrame u _ (fun tail h => hstart tail (congrArg some h)) fun tail h => hstop tail (congrArg some h)).trans
        (follows_resumePort _ _)
    · exact .refl u

theorem follows_setHeld (x : List HeldEvent) : Follows u (u.setHeld x) := .of_eq (timersView_setHeld u x)

theorem timersFollow_takeOldestHeld : TimersFollow u (takeOldestHeld u) := by
  rcases takeOldestHeld_cases u with ⟨-, h⟩ | ⟨x, rest, -, h⟩ <;> rw [h]
  · exact (Follows.refl u).toTimersFollow
  · exact ((follows_setHeld u rest).toTimersFollow.trans (timersFollow_takeEvent _ x)).trans (follows_takeDueGrants _).toTimersFollow

theorem timersFollow_takeHeldUpTo (n : Nat) : TimersFollow u (takeHeldUpTo n u) := by
  induction n generalizing u with
  | zero => exact (Follows.refl u).toTimersFollow
  | succ n ih => exact (timersFollow_takeOldestHeld u).trans (ih _)

end

/-! ### The moves of the operating state in a cycle -/

/-- R119: the operating state moves by the drain at most, or a START or a STOP is taken. -/
def OpStateMoves (taken : List Instr) (u v : State) : Prop :=
  DrainFollows u v ∨ (∃ tail, .start tail ∈ taken) ∨ ∃ tail, .stop tail ∈ taken

/-- R162: the commands that a cycle takes up: those that wait, where an event is held. -/
def commandsTakenUp (s : State) : List Instr :=
  if s.held = [] then [] else waitingCommands s

namespace OpStateMoves

variable {taken more : List Instr} {u v w : State}

theorem trans (h : OpStateMoves taken u v) (h' : OpStateMoves taken v w) : OpStateMoves taken u w := by
  rcases h with hdrain | hmoved
  · rcases h' with hdrain' | hmoved
    · exact .inl (hdrain.trans hdrain')
    · exact .inr hmoved
  · exact .inr hmoved

theorem mono (h : OpStateMoves taken u v) (hsub : taken ⊆ more) : OpStateMoves more u v :=
  h.imp_right (Or.imp (fun ⟨tail, hmem⟩ => ⟨tail, hsub hmem⟩) fun ⟨tail, hmem⟩ => ⟨tail, hsub hmem⟩)

theorem of_follows (h : Follows u v) : OpStateMoves taken u v :=
  .inl h.toDrainFollows

theorem takeEvent (u : State) {x : HeldEvent} (hx : ∀ d, x.command = some d → d ∈ taken) :
    OpStateMoves taken u (takeEvent x u) := by
  by_cases hstart : ∃ tail, x.command = some (.start tail)
  · obtain ⟨tail, h⟩ := hstart
    exact .inr (.inl ⟨tail, hx _ h⟩)
  by_cases hstop : ∃ tail, x.command = some (.stop tail)
  · obtain ⟨tail, h⟩ := hstop
    exact .inr (.inr ⟨tail, hx _ h⟩)
  · exact of_follows (follows_takeEvent u (not_exists.mp hstart) (not_exists.mp hstop))

theorem takeOldestHeld (u : State) : OpStateMoves (waitingCommands u) u (takeOldestHeld u) := by
  rcases takeOldestHeld_cases u with ⟨-, h⟩ | ⟨x, rest, hheld, h⟩ <;> rw [h]
  · exact of_follows (.refl u)
  · have hx : ∀ d, x.command = some d → d ∈ waitingCommands u := fun d hd =>
      List.mem_append_left _ (List.mem_filterMap.mpr ⟨x, hheld ▸ List.mem_cons_self, hd⟩)
    exact ((of_follows (follows_setHeld u rest)).trans (takeEvent _ hx)).trans (of_follows (follows_takeDueGrants _))

theorem takeHeldUpTo (n : Nat) (u : State) : OpStateMoves (waitingCommands u) u (takeHeldUpTo n u) := by
  induction n generalizing u with
  | zero => exact of_follows (.refl u)
  | succ n ih => exact (takeOldestHeld u).trans ((ih _).mono (takesUp_takeOldestHeld u).waiting)

theorem takeAllHeld (u : State) : OpStateMoves (commandsTakenUp u) u (takeAllHeld u) := by
  unfold Machine.takeAllHeld commandsTakenUp
  split
  · rw [takeHeldUpTo_nil _ u ‹_›]
    exact of_follows (.refl u)
  · exact takeHeldUpTo _ u

theorem takeWaiting (u : State) : OpStateMoves (commandsTakenUp u) u (takeWaiting u) := by
  have hdue := outside_takeDue_clearOutputs u
  have hsame : commandsTakenUp (takeDue (clearOutputs u)) = commandsTakenUp u := by
    unfold commandsTakenUp waitingCommands
    rw [held_of_outside hdue, portWaiting_of_outside hdue]
    rfl
  have hclear : DrainFollows u (clearOutputs u) := .of_same rfl id id
  exact OpStateMoves.trans (.inl (hclear.trans (follows_takeDue _).toDrainFollows)) (hsame ▸ takeAllHeld _)

theorem advanceTimers (u : State) : OpStateMoves taken u (advanceTimers u) :=
  .inl (.of_same rfl (fun h => by simp [Machine.advanceTimers, h]) fun h => by simp [Machine.advanceTimers, h])

theorem tickOnce (u : State) : OpStateMoves (commandsTakenUp u) u (tickOnce u) :=
  ((takeWaiting u).trans (advanceTimers _)).trans (of_follows (.of_eq (timersView_setTbCount _ _)))

theorem refclkOnce (u : State) : OpStateMoves (commandsTakenUp u) u (refclkOnce u) := by
  unfold Machine.refclkOnce
  split
  · exact tickOnce u
  · exact (takeWaiting u).trans (of_follows (.of_eq (timersView_setTbCount _ _)))

theorem takeInput (u : State) : OpStateMoves taken u (takeInput u) := by
  unfold Machine.takeInput
  rcases edgesArrive_cases u.nextInput.edges (u.setCycleInputs u.cycleInputs.tail) with ⟨-, -, h⟩ | ⟨-, h⟩ <;> rw [h] <;>
    exact of_follows (.of_eq (by simp [waitAtPort, portEdges]))

end OpStateMoves

/-- R162: edges hold no command. -/
theorem commandsTakenUp_takeInput (s : State) : commandsTakenUp (takeInput s) ⊆ commandsTakenUp s := by
  unfold commandsTakenUp
  rw [takeInput_held]
  split
  · exact List.Subset.refl _
  · exact (takesUp_takeInput s).waiting

/-- R162: a tick or a REFCLK cycle. -/
theorem opStateMoves_of_cycle {c : Instr} {s t : State} (hc : c = .tick ∨ c = .refclkCycle) (hexec : exec c s = .next t) :
    OpStateMoves (commandsTakenUp s) s t := by
  have hrun (v : State) (x : Bool) : OpStateMoves (commandsTakenUp s) v (v.setRefclkStopped x) :=
    .of_follows (.of_eq (timersView_setRefclkStopped v x))
  rcases hc with rfl | rfl
  · cases hexec
    split
    · exact .of_follows (.refl s)
    · exact (OpStateMoves.tickOnce s).trans (hrun _ _)
  · rw [exec_refclkCycle] at hexec
    cases hexec
    split
    · exact (OpStateMoves.takeInput s).trans (hrun _ _)
    · have hcycle := (OpStateMoves.takeInput s).trans ((OpStateMoves.refclkOnce _).mono (commandsTakenUp_takeInput s))
      rcases takeDueBeforeStop_cases s.nextInput.stops (refclkOnce (takeInput s)) with ⟨-, h⟩ | ⟨-, h⟩ <;> rw [h]
      · exact (hcycle.trans (.of_follows (follows_takeDue _))).trans (hrun _ _)
      · exact hcycle.trans (hrun _ _)

theorem commandsTakenUp_sub (s : State) : commandsTakenUp s ⊆ waitingCommands s := by
  unfold commandsTakenUp
  split
  · exact List.nil_subset _
  · exact List.Subset.refl _

/-! ### The moves of the operating state at the other commands -/

/-- The end of a frame leaves the tables, or does to them what the row's action does. -/
theorem endFrame_timersView (c : Instr) (u : State) :
    (endFrame c u).timersView = u.timersView ∨
      ∃ r w, w.timersView = u.timersView ∧ (endFrame c u).timersView = (rowAction c r w).1.timersView := by
  cases hf : frameOfInstr c with
  | none => exact .inl (by rw [endFrame, hf])
  | some f =>
    have hended : (frameEnded f (u.setMisos [])).timersView = u.timersView := by simp [frameEnded]
    rw [endFrame_eq c f u hf]
    rcases arriveAtManagement_cases c f (u.setMisos []) with
      ⟨-, heq⟩ | ⟨-, -, heq⟩ | ⟨-, -, -, heq⟩ | ⟨-, -, -, heq⟩ <;> rw [heq]
    · exact .inl hended
    · rcases takeFrameEnd_cases c f (u.setMisos []) with ⟨-, heq⟩ | ⟨-, heq⟩ <;> rw [heq]
      · exact .inl ((timersView_setReply ..).trans hended)
      · rcases takeFrame_cases c f (frameEnded f (u.setMisos [])) with ⟨-, heq⟩ | ⟨r, -, heq⟩ <;> rw [heq]
        · exact .inl ((timersView_setReply ..).trans hended)
        · exact .inr ⟨r, _, hended, timersView_setReply ..⟩
    · exact .inl (by simp [waitAtPort])
    · rcases holdFrameEnd_cases c f (u.setMisos []) with ⟨-, heq⟩ | ⟨-, heq⟩ <;> rw [heq] <;>
        exact .inl ((timersView_setHeld ..).trans hended)

theorem opState_of_timersView {u v : State} (h : v.timersView = u.timersView) : v.opState = u.opState := by
  simp only [State.timersView, Prod.mk.injEq] at h
  exact h.2.2.2.2.2.2

/-- R121: START moves OFFLINE to ONLINE at most. -/
theorem opState_endFrame_start (tail : FrameTail) (u : State) :
    (endFrame (.start tail) u).opState = u.opState ∨ (u.opState = .offline ∧ (endFrame (.start tail) u).opState = .online) := by
  rcases endFrame_timersView (.start tail) u with h | ⟨r, w, hw, h⟩
  · exact .inl (opState_of_timersView h)
  · rw [opState_of_timersView h, ← opState_of_timersView hw]
    by_cases hoff : w.opState = .offline
    · exact .inr ⟨hoff, congrArg (fun x : State × Reply => x.1.opState) (startAction_of_offline r hoff)⟩
    · exact .inl (congrArg (fun x : State × Reply => x.1.opState) (startAction_of_not_offline r hoff))

/-- R122, R123: STOP moves ONLINE to DRAINING at most, and the drain may complete. -/
theorem opState_endFrame_stop (tail : FrameTail) (u : State) :
    let v := endFrame (.stop tail) u
    v.opState = u.opState ∨ (u.opState = .online ∧ (v.opState = .draining ∨ (v.opState = .offline ∧ v.pq = [] ∧ v.prt = []))) := by
  rcases endFrame_timersView (.stop tail) u with h | ⟨r, w, hw, h⟩
  · exact .inl (opState_of_timersView h)
  · intro v
    have hview := h
    simp only [State.timersView, Prod.mk.injEq] at hview
    obtain ⟨hpq, hprt, -, -, -, -, hop⟩ := hview
    rw [show v = endFrame (.stop tail) u from rfl, hop, hpq, hprt, ← opState_of_timersView hw]
    by_cases honline : w.opState = .online
    · have haction : (rowAction (.stop tail) r w).1 =
          checkDrain ((sealAll (w.setOpState .draining)).setPrt
            ((sealAll (w.setOpState .draining)).prt.filter fun p => !p.isLingering)) := by
        dsimp only [rowAction, stopAction]
        rw [honline]
      rw [haction]
      rcases (follows_stop (w.setOpState .draining)).moves with hsame | ⟨-, hoff, hpq, hprt⟩
      · exact .inr ⟨honline, .inl hsame⟩
      · exact .inr ⟨honline, .inr ⟨hoff, hpq, hprt⟩⟩
    · exact .inl (congrArg (fun x : State × Reply => x.1.opState) (stopAction_of_not_online r honline))

/-- R119: the other rows of the management port move it by the drain at most. -/
theorem drainFollows_endFrame {c : Instr} (u : State) (hstart : ∀ tail, c ≠ .start tail) (hstop : ∀ tail, c ≠ .stop tail) :
    DrainFollows u (endFrame c u) := by
  rcases endFrame_timersView c u with h | ⟨r, w, hw, h⟩
  · exact (Follows.of_eq h).toDrainFollows
  · exact (((Follows.of_eq hw).trans (follows_rowAction w r hstart hstop)).trans (.of_eq h)).toDrainFollows

theorem drainFollows_arriveAtDeviceBus (c : Instr) {take : State → State} {u : State} (h : DrainFollows u (take u)) :
    DrainFollows u (arriveAtDeviceBus c take u) := by
  rcases arriveAtDeviceBus_cases c take u with ⟨-, e⟩ | ⟨-, -, -, e⟩ | ⟨-, -, -, e⟩ <;> rw [e]
  · exact (Follows.refl u).toDrainFollows
  · exact (follows_setHeld u _).toDrainFollows
  · exact h

theorem drainFollows_arriveAtMemoryLink (c : Instr) {take : State → State} {u : State} (h : DrainFollows u (take u)) :
    DrainFollows u (arriveAtMemoryLink c take u) := by
  rcases arriveAtMemoryLink_cases c take u with ⟨-, e⟩ | ⟨-, -, e⟩ | ⟨-, -, e⟩ <;> rw [e]
  · exact (Follows.refl u).toDrainFollows
  · exact (follows_setHeld u _).toDrainFollows
  · exact h

theorem drainFollows_assertDrstn (u : State) : DrainFollows u (assertDrstn u) := by
  unfold assertDrstn
  split
  · exact .of_same rfl id id
  · split
    · exact (Follows.refl u).toDrainFollows
    · unfold dBusResetEvent
      refine DrainFollows.trans (.of_same ?_ ?_ ?_) (follows_checkDrain _).toDrainFollows
      · simp [dropHeldTransactions, sealAll_eq]
      · exact fun h => by simp [dropHeldTransactions, sealAll_eq, h]
      · exact fun _ => by simp [dropHeldTransactions]

/-- R119: a command of the other interfaces, of the pins or of a timer moves it by the drain at most. -/
theorem drainFollows_of_event {c : Instr} {s t : State} (hframe : frameOfInstr c = none) (hcycle : ¬(c = .tick ∨ c = .refclkCycle))
    (hreset : c ≠ .powerOnReset) (hexec : exec c s = .next t) : DrainFollows s t := by
  have hrefl := (Follows.refl s).toDrainFollows
  have hclear (x : List Answer) : DrainFollows s (s.setAnswers x) := .of_same rfl id id
  cases c with
  | write i a data =>
    cases hexec
    exact (hclear []).trans (drainFollows_arriveAtDeviceBus _ (follows_writeTransaction _ i a data).toDrainFollows)
  | read i a n =>
    cases hexec
    exact (hclear []).trans (drainFollows_arriveAtDeviceBus _ (follows_readTransaction _ i a n).toDrainFollows)
  | grant =>
    cases hexec
    have hrequests : DrainFollows s (s.setRequests []) := .of_same rfl id id
    exact hrequests.trans (follows_grantOnce _).toDrainFollows
  | writeResponse u st =>
    cases hexec
    exact drainFollows_arriveAtMemoryLink _ (follows_takeWriteResponse s u st).toDrainFollows
  | readResponse u r =>
    cases hexec
    exact drainFollows_arriveAtMemoryLink _ (follows_takeReadResponse s u r).toDrainFollows
  | readyAssertion | readyDeassertion | releaseOfDrstn =>
    cases hexec
    exact .of_same rfl id id
  | dBusReset =>
    cases hexec
    exact drainFollows_assertDrstn s
  | releaseOfPorn csLow fullPulse =>
    simp only [exec, execReleaseOfPorn] at hexec
    split at hexec
    · split at hexec
      · cases hexec
        exact .of_same rfl id id
      · cases hexec
    · cases hexec
      exact hrefl
  | combineAgeExpiry i =>
    cases hexec
    split
    · exact (follows_sealWhere s _).toDrainFollows
    · exact hrefl
  | claimTimeOut i l =>
    cases hexec
    split
    · exact (follows_expireClaim s i l).toDrainFollows
    · exact hrefl
  | lingerTimerExpiry i l =>
    cases hexec
    split
    · exact (follows_expireLinger s i l).toDrainFollows
    · exact hrefl
  | memoryTimeOut u =>
    cases hexec
    split
    · exact (follows_expireMemory s u).toDrainFollows
    · exact hrefl
  | tick => exact absurd (.inl rfl) hcycle
  | refclkCycle => exact absurd (.inr rfl) hcycle
  | powerOnReset => exact absurd rfl hreset
  | _ => cases hframe

/-- Settles O53: a cycle by what it takes up, START and STOP by their rows, and every other command by the drain. -/
theorem operatingStateMovesOnlyAsStated : Obligations.OperatingStateMovesOnlyAsStated := by
  intro c s t hexec hne
  have hself : c ∈ commandsTaken c s := List.mem_cons_self
  have hdrained (h : DrainFollows s t) : s.opState = .draining ∧ t.opState = .offline ∧ t.pq = [] ∧ t.prt = [] :=
    h.moves.resolve_left hne
  by_cases hcycle : c = .tick ∨ c = .refclkCycle
  · have hmoves := opStateMoves_of_cycle hcycle hexec
    refine ⟨fun hnone => ?_, ?_⟩
    · rw [commandsTakenUp, if_pos (hnone hcycle)] at hmoves
      rcases hmoves with h | ⟨tail, h⟩ | ⟨tail, h⟩
      · exact .inr (.inr (.inl (hdrained h)))
      · cases h
      · cases h
    · have hsub := List.Subset.trans (commandsTakenUp_sub s) (waitingCommands_sub_commandsTaken hcycle)
      rcases hmoves.mono hsub with h | h | h
      · exact .inr (.inr (.inl (hdrained h)))
      · exact .inl h
      · exact .inr (.inl h)
  by_cases hreset : c = .powerOnReset
  · subst hreset
    cases hexec
    exact ⟨fun _ => .inr (.inr (.inr ⟨rfl, rfl⟩)), .inr (.inr (.inr ⟨rfl, rfl⟩))⟩
  cases hframe : frameOfInstr c with
  | none =>
    have h := hdrained (drainFollows_of_event hframe hcycle hreset hexec)
    exact ⟨fun _ => .inr (.inr (.inl h)), .inr (.inr (.inl h))⟩
  | some f =>
    rw [exec_eq_endFrame hframe] at hexec
    cases hexec
    by_cases hstart : ∃ tail, c = .start tail
    · obtain ⟨tail, rfl⟩ := hstart
      obtain ⟨hoff, hon⟩ := (opState_endFrame_start tail s).resolve_left hne
      exact ⟨fun _ => .inl ⟨hoff, hon, tail, rfl⟩, .inl ⟨tail, hself⟩⟩
    by_cases hstop : ∃ tail, c = .stop tail
    · obtain ⟨tail, rfl⟩ := hstop
      obtain ⟨hon, hto⟩ := (opState_endFrame_stop tail s).resolve_left hne
      exact ⟨fun _ => .inr (.inl ⟨hon, ⟨tail, rfl⟩, hto⟩), .inr (.inl ⟨tail, hself⟩)⟩
    · have h := hdrained (drainFollows_endFrame s (not_exists.mp hstart) (not_exists.mp hstop))
      exact ⟨fun _ => .inr (.inr (.inl h)), .inr (.inr (.inl h))⟩

end Sys2Proof.Machine

/-! ## No operation on the tables reads the outputs, what waits, or the board's inputs: it commutes with a change of them (R162). -/

namespace Sys2Proof.Machine

/-! ### The statement -/

/-- A change of the fields around the tables: what is held and waits, the stop of REFCLK, the frame in progress, the count of REFCLK cycles,
the board's inputs, and the outputs. -/
structure Around where
  held : List HeldEvent → List HeldEvent
  stopped : Bool → Bool
  frame : FrameProgress → FrameProgress
  count : Fin 50 → Fin 50
  waiting : List PortEvent → List PortEvent
  inputs : List CycleInput → List CycleInput
  answers : List Answer → List Answer
  requests : List LinkRequest → List LinkRequest
  misos : List Miso → List Miso

/-- No change. -/
def Around.keep : Around :=
  ⟨id, id, id, id, id, id, id, id, id⟩

/-- The state so changed. -/
def Around.on (a : Around) (s : State) : State :=
  { s with
    held := a.held s.held, refclkStopped := a.stopped s.refclkStopped, frameInProgress := a.frame s.frameInProgress,
    tbCount := a.count s.tbCount, portWaiting := a.waiting s.portWaiting, cycleInputs := a.inputs s.cycleInputs,
    answers := a.answers s.answers, requests := a.requests s.requests, misos := a.misos s.misos }

/-- What is given at the end of the answers stays at their end. -/
def Around.KeepsAnswers (a : Around) : Prop :=
  ∀ x y, a.answers (x ++ y) = a.answers x ++ y

/-- What is sent at the end of the requests stays at their end. -/
def Around.KeepsRequests (a : Around) : Prop :=
  ∀ x y, a.requests (x ++ y) = a.requests x ++ y

section
variable (a : Around) (s : State)

/-! ### Fields and updates of the tables -/

@[simp] theorem Around.on_por : (a.on s).por = s.por := rfl
@[simp] theorem Around.on_ready : (a.on s).ready = s.ready := rfl
@[simp] theorem Around.on_opState : (a.on s).opState = s.opState := rfl
@[simp] theorem Around.on_pq : (a.on s).pq = s.pq := rfl
@[simp] theorem Around.on_prt : (a.on s).prt = s.prt := rfl
@[simp] theorem Around.on_tags : (a.on s).tags = s.tags := rfl
@[simp] theorem Around.on_lastGranted : (a.on s).lastGranted = s.lastGranted := rfl
@[simp] theorem Around.on_windows : (a.on s).windows = s.windows := rfl
@[simp] theorem Around.on_streams : (a.on s).streams = s.streams := rfl
@[simp] theorem Around.on_nq : (a.on s).nq = s.nq := rfl
@[simp] theorem Around.on_noticesLost : (a.on s).noticesLost = s.noticesLost := rfl
@[simp] theorem Around.on_el : (a.on s).el = s.el := rfl
@[simp] theorem Around.on_errorsLost : (a.on s).errorsLost = s.errorsLost := rfl
@[simp] theorem Around.on_counters : (a.on s).counters = s.counters := rfl
@[simp] theorem Around.on_timers : (a.on s).timers = s.timers := rfl
@[simp] theorem Around.on_reply : (a.on s).reply = s.reply := rfl
@[simp] theorem Around.on_nextId : (a.on s).nextId = s.nextId := rfl
@[simp] theorem Around.on_answers : (a.on s).answers = a.answers s.answers := rfl
@[simp] theorem Around.on_requests : (a.on s).requests = a.requests s.requests := rfl

@[simp] theorem Around.setOpState_on (x : OpState) : (a.on s).setOpState x = a.on (s.setOpState x) := rfl
@[simp] theorem Around.setPq_on (x : List PqEntry) : (a.on s).setPq x = a.on (s.setPq x) := rfl
@[simp] theorem Around.setPrt_on (x : List PrtEntry) : (a.on s).setPrt x = a.on (s.setPrt x) := rfl
@[simp] theorem Around.setTags_on (x : Vector Tag 16) : (a.on s).setTags x = a.on (s.setTags x) := rfl
@[simp] theorem Around.setLastGranted_on (x : LinkClass) : (a.on s).setLastGranted x = a.on (s.setLastGranted x) := rfl
@[simp] theorem Around.setWindows_on (x : Vector Window 16) : (a.on s).setWindows x = a.on (s.setWindows x) := rfl
@[simp] theorem Around.setStreams_on (x : Vector StreamRecord 8) : (a.on s).setStreams x = a.on (s.setStreams x) := rfl
@[simp] theorem Around.setNq_on (x : List Notice) : (a.on s).setNq x = a.on (s.setNq x) := rfl
@[simp] theorem Around.setNoticesLost_on (x : Nat) : (a.on s).setNoticesLost x = a.on (s.setNoticesLost x) := rfl
@[simp] theorem Around.setEl_on (x : List ErrorRecord) : (a.on s).setEl x = a.on (s.setEl x) := rfl
@[simp] theorem Around.setErrorsLost_on (x : Nat) : (a.on s).setErrorsLost x = a.on (s.setErrorsLost x) := rfl
@[simp] theorem Around.setCounters_on (x : Vector Nat 19) : (a.on s).setCounters x = a.on (s.setCounters x) := rfl
@[simp] theorem Around.setTimers_on (x : TimerItems) : (a.on s).setTimers x = a.on (s.setTimers x) := rfl
@[simp] theorem Around.setReply_on (x : Reply) : (a.on s).setReply x = a.on (s.setReply x) := rfl
@[simp] theorem Around.setNextId_on (x : Nat) : (a.on s).setNextId x = a.on (s.setNextId x) := rfl

/-- A run of operations that commute with the change commutes with it. -/
theorem Around.foldl_on {α : Type} {f : State → α → State} (h : ∀ v x, f (a.on v) x = a.on (f v x)) (l : List α) :
    l.foldl f (a.on s) = a.on (l.foldl f s) := by
  induction l generalizing s with
  | nil => rfl
  | cons x l ih => exact (congrArg (l.foldl f) (h s x)).trans (ih _)

/-! ### Counters, reports and streams -/

@[simp] theorem Around.bump_on (c : Counter) : bump c (a.on s) = a.on (bump c s) := rfl

@[simp] theorem Around.offerError_on (r : ErrorRecord) : offerError r (a.on s) = a.on (offerError r s) := by
  unfold offerError
  rw [Around.on_el]
  split <;> rfl

@[simp] theorem Around.offerNotice_on (n : Notice) : offerNotice n (a.on s) = a.on (offerNotice n s) := by
  unfold offerNotice
  rw [Around.on_nq]
  split <;> rfl

@[simp] theorem Around.noticeOfLeaving_on (e : PqEntry) (o : ReleaseOutcome) :
    noticeOfLeaving e o (a.on s) = a.on (noticeOfLeaving e o s) := by
  unfold noticeOfLeaving
  split
  · exact a.offerNotice_on s _
  · rfl
  · rfl

@[simp] theorem Around.mapStreams_on (f : StreamNo → StreamRecord → StreamRecord) :
    mapStreams f (a.on s) = a.on (mapStreams f s) := rfl

@[simp] theorem Around.setStream_on (i : StreamNo) (r : StreamRecord) : setStream i r (a.on s) = a.on (setStream i r s) := rfl

@[simp] theorem Around.setOpenEntry_on (i : StreamNo) (ref : Option Nat) :
    setOpenEntry i ref (a.on s) = a.on (setOpenEntry i ref s) := rfl

@[simp] theorem Around.sealWhere_on (cause : PqEntry → Bool) : sealWhere cause (a.on s) = a.on (sealWhere cause s) := rfl
@[simp] theorem Around.sealAll_on : sealAll (a.on s) = a.on (sealAll s) := rfl

/-! ### The drain, the PRT and entries that leave -/

@[simp] theorem Around.checkDrain_on : checkDrain (a.on s) = a.on (checkDrain s) := by
  rw [checkDrain_eq, checkDrain_eq]
  rfl

@[simp] theorem Around.freePrt_on (id : Nat) : freePrt id (a.on s) = a.on (freePrt id s) := by
  simp [freePrt]

@[simp] theorem Around.updatePrt_on (id : Nat) (f : PrtEntry → PrtEntry) : updatePrt id f (a.on s) = a.on (updatePrt id f s) := rfl
@[simp] theorem Around.parkFetched_on (id : Nat) (r : Fetched) : parkFetched id r (a.on s) = a.on (parkFetched id r s) := rfl
@[simp] theorem Around.writeMeetsPrt_on (l : Line) : writeMeetsPrt l (a.on s) = a.on (writeMeetsPrt l s) := rfl
@[simp] theorem Around.leavePq_on (id : Nat) : leavePq id (a.on s) = a.on (leavePq id s) := rfl

@[simp] theorem Around.noteVoided_on (e : PqEntry) : noteVoided (a.on s) e = a.on (noteVoided s e) := by
  simp [noteVoided]

@[simp] theorem Around.voidPass_on : voidPass (a.on s) = a.on (voidPass s) := by
  simp [voidPass, a.foldl_on _ fun v e => a.noteVoided_on v e]

@[simp] theorem Around.afterLeaving_on : afterLeaving (a.on s) = a.on (afterLeaving s) := by
  simp [afterLeaving]

@[simp] theorem Around.countReleased_on (e : PqEntry) : countReleased e (a.on s) = a.on (countReleased e s) := by
  unfold countReleased
  split <;> rfl

@[simp] theorem Around.retireEntry_on (e : PqEntry) : retireEntry e (a.on s) = a.on (retireEntry e s) := by
  simp [retireEntry]

@[simp] theorem Around.markFault_on (i : StreamNo) : markFault i (a.on s) = a.on (markFault i s) := rfl

@[simp] theorem Around.failEntry_on (e : PqEntry) : failEntry e (a.on s) = a.on (failEntry e s) := by
  simp [failEntry]

/-! ### Tags, responses and expiries -/

@[simp] theorem Around.setTag_on (t : TagNo) (r : Tag) : setTag t r (a.on s) = a.on (setTag t r s) := rfl

@[simp] theorem Around.lateResponse_on (t : TagNo) : lateResponse t (a.on s) = a.on (lateResponse t s) := by
  simp [lateResponse]

@[simp] theorem Around.unexpectedResponse_on (t : TagNo) : unexpectedResponse t (a.on s) = a.on (unexpectedResponse t s) := by
  simp [unexpectedResponse]

@[simp] theorem Around.endWrite_on (t : TagNo) (id : Nat) (st : ResponseStatus) :
    endWrite t id st (a.on s) = a.on (endWrite t id st s) := by
  unfold endWrite
  rw [Around.on_pq]
  split <;> simp

theorem Around.takeWriteResponse_on (t : TagNo) (st : ResponseStatus) :
    takeWriteResponse t st (a.on s) = a.on (takeWriteResponse t st s) := by
  unfold takeWriteResponse
  rw [Around.on_tags]
  split <;> simp

@[simp] theorem Around.endFetch_on (t : TagNo) (id : Nat) (r : ReadResult) :
    endFetch t id r (a.on s) = a.on (endFetch t id r s) := by
  unfold endFetch
  rw [Around.on_prt]
  split <;> simp

theorem Around.takeReadResponse_on (t : TagNo) (r : ReadResult) :
    takeReadResponse t r (a.on s) = a.on (takeReadResponse t r s) := by
  unfold takeReadResponse
  rw [Around.on_tags]
  split <;> simp

theorem Around.expireCombineAge_on (i : StreamNo) : expireCombineAge i (a.on s) = a.on (expireCombineAge i s) := rfl

theorem Around.expireClaim_on (i : StreamNo) (l : Line) : expireClaim i l (a.on s) = a.on (expireClaim i l s) := by
  unfold expireClaim
  rw [Around.on_prt]
  split
  · split <;> simp
  · rfl

theorem Around.expireLinger_on (i : StreamNo) (l : Line) : expireLinger i l (a.on s) = a.on (expireLinger i l s) := by
  unfold expireLinger
  rw [Around.on_prt]
  split
  · split <;> simp
  · rfl

@[simp] theorem Around.tellOwnerLapsed_on (t : TagNo) (o : Owner) : tellOwnerLapsed t o (a.on s) = a.on (tellOwnerLapsed t o s) := by
  unfold tellOwnerLapsed
  split
  · rw [Around.on_pq]
    split <;> simp
  · rw [Around.on_prt]
    split <;> simp
  · rfl

@[simp] theorem Around.recordExhausted_on : recordExhausted (a.on s) = a.on (recordExhausted s) := by
  unfold recordExhausted
  rw [Around.on_tags]
  split <;> simp

theorem Around.expireMemory_on (t : TagNo) : expireMemory t (a.on s) = a.on (expireMemory t s) := by
  unfold expireMemory
  rw [Around.on_tags]
  split
  · split <;> simp
  · rfl
  · rfl

theorem Around.takeDueExpiries_on : takeDueExpiries (a.on s) = a.on (takeDueExpiries s) := by
  have hlapse : lapseTags (a.on s) = a.on (lapseTags s) := a.foldl_on s (fun v t => a.expireMemory_on v t) allTags
  have hage (v : State) : sealAged (a.on v) = a.on (sealAged v) := a.foldl_on v (fun v i => a.expireCombineAge_on v i) allStreams
  have hclaim (l : List PrtEntry) (v : State) : freeUnclaimed l (a.on v) = a.on (freeUnclaimed l v) :=
    a.foldl_on v (fun v (p : PrtEntry) => a.expireClaim_on v p.stream p.line) l
  have hlinger (l : List PrtEntry) (v : State) : freeLingered l (a.on v) = a.on (freeLingered l v) :=
    a.foldl_on v (fun v (p : PrtEntry) => a.expireLinger_on v p.stream p.line) l
  simp only [takeDueExpiries_eq, hlapse, hage, hclaim, hlinger, Around.on_prt]

/-! ### Grants -/

section
variable (hrequests : a.KeepsRequests)
include hrequests

theorem Around.sendRequest_on (r : LinkRequest) : sendRequest r (a.on s) = a.on (sendRequest r s) := by
  have hsent : (sendRequest r (a.on s)).requests = (a.on (sendRequest r s)).requests := (hrequests s.requests [r]).symm
  have hrest (x : List LinkRequest) : (a.on s).setRequests x = (a.on (sendRequest r s)).setRequests x := rfl
  exact (hrest _).trans (congrArg (a.on (sendRequest r s)).setRequests hsent)

theorem Around.grantCandidate_on (t : TagNo) : grantCandidate t (a.on s) = a.on (grantCandidate t s) := by
  have hwrite (e : PqEntry) : grantWrite t e (a.on s) = a.on (grantWrite t e s) := by
    simp [grantWrite, a.sendRequest_on _ hrequests]
  have hread (p : PrtEntry) : grantRead t p (a.on s) = a.on (grantRead t p s) := by
    simp [grantRead, a.sendRequest_on _ hrequests]
  unfold grantCandidate
  rw [show writeCandidate (a.on s) = writeCandidate s from rfl, show readCandidate (a.on s) = readCandidate s from rfl,
    show arbiterChoice (a.on s) = arbiterChoice s from rfl]
  split
  · split
    · exact hwrite _
    · exact hread _
  · exact hwrite _
  · exact hread _
  · rfl

theorem Around.grantOnce_on : grantOnce (a.on s) = a.on (grantOnce s) := by
  unfold grantOnce
  rw [Around.on_por, Around.on_ready, Around.on_tags]
  split
  · rfl
  · split
    · exact a.grantCandidate_on s hrequests _
    · rfl

theorem Around.takeDueGrants_on : takeDueGrants (a.on s) = a.on (takeDueGrants s) :=
  a.foldl_on s (fun v _ => a.grantOnce_on v hrequests) allTags

theorem Around.takeDue_on : takeDue (a.on s) = a.on (takeDue s) := by
  rw [takeDue, takeDue, a.takeDueExpiries_on, a.takeDueGrants_on _ hrequests]

end

/-! ### Transactions -/

section
variable (hanswers : a.KeepsAnswers)
include hanswers

theorem Around.giveAnswer_on (x : Answer) : giveAnswer x (a.on s) = a.on (giveAnswer x s) := by
  have hgiven : (giveAnswer x (a.on s)).answers = (a.on (giveAnswer x s)).answers := (hanswers s.answers [x]).symm
  have hrest (y : List Answer) : (a.on s).setAnswers y = (a.on (giveAnswer x s)).setAnswers y := rfl
  exact (hrest _).trans (congrArg (a.on (giveAnswer x s)).setAnswers hgiven)

theorem Around.answerAccept_on : answerAccept (a.on s) = a.on (answerAccept s) := by
  rw [answerAccept, a.giveAnswer_on s hanswers]
  rfl

theorem Around.answerRetry_on (r : RetryReason) : answerRetry r (a.on s) = a.on (answerRetry r s) := by
  rw [answerRetry, a.giveAnswer_on s hanswers]
  rfl

theorem Around.answerData_on (bytes : List Byte) : answerData bytes (a.on s) = a.on (answerData bytes s) := by
  rw [answerData, a.giveAnswer_on s hanswers]
  rfl

theorem Around.answerAbort_on : answerAbort (a.on s) = a.on (answerAbort s) := by
  rw [answerAbort, a.giveAnswer_on s hanswers]
  rfl

theorem Around.abort_on (r : ErrorRecord) : answerAbort (offerError r (a.on s)) = a.on (answerAbort (offerError r s)) := by
  rw [a.offerError_on, a.answerAbort_on _ hanswers]

omit hanswers in
@[simp] theorem Around.mergeInto_on (e : PqEntry) (bytes : ByteSet) : mergeInto e bytes (a.on s) = a.on (mergeInto e bytes s) := by
  unfold mergeInto
  dsimp only
  split <;> rfl

omit hanswers in
@[simp] theorem Around.appendFor_on (tr : WriteTreatment) (i : StreamNo) (l : Line) (bytes : ByteSet) (w : WindowNo) (notify : Bool) :
    appendFor tr i l bytes w notify (a.on s) = a.on (appendFor tr i l bytes w notify s) := by
  cases tr with
  | merge =>
    dsimp only [appendFor, appendMerge]
    rw [Around.on_timers]
    split <;> rfl
  | _ => rfl

omit hanswers in
@[simp] theorem Around.sealsBeforeAppend_on (i : StreamNo) (l : Line) :
    sealsBeforeAppend i l (a.on s) = a.on (sealsBeforeAppend i l s) := rfl

theorem Around.postNewEntry_on (tr : WriteTreatment) (i : StreamNo) (l : Line) (bytes : ByteSet) (w : WindowNo) (notify : Bool) :
    postNewEntry tr i l bytes w notify (a.on s) = a.on (postNewEntry tr i l bytes w notify s) := by
  unfold postNewEntry
  rw [Around.on_pq]
  split
  · simp [a.answerAccept_on _ hanswers]
  · exact a.answerRetry_on s hanswers _

theorem Around.postWrite_on (tr : WriteTreatment) (i : StreamNo) (l : Line) (bytes : ByteSet) (w : WindowNo) (notify : Bool) :
    postWrite tr i l bytes w notify (a.on s) = a.on (postWrite tr i l bytes w notify s) := by
  unfold postWrite
  rw [show mergeTarget i l (a.on s) = mergeTarget i l s from rfl]
  split
  · simp [a.answerAccept_on _ hanswers]
  · exact a.postNewEntry_on s hanswers ..

theorem Around.checkStateAndHold_on (i : StreamNo) {work : State → State} (h : work (a.on s) = a.on (work s)) :
    checkStateAndHold i work (a.on s) = a.on (checkStateAndHold i work s) := by
  unfold checkStateAndHold
  rw [Around.on_opState, Around.on_streams]
  split
  · exact a.answerRetry_on s hanswers _
  · split
    · exact a.answerRetry_on s hanswers _
    · exact h

theorem Around.writeTransaction_on (i : StreamNo) (addr : Address) (data : List Byte) :
    writeTransaction i addr data (a.on s) = a.on (writeTransaction i addr data s) := by
  unfold writeTransaction
  rw [Around.on_windows]
  split
  · exact a.abort_on s hanswers _
  · split
    · exact a.abort_on s hanswers _
    · split
      · exact a.abort_on s hanswers _
      · exact a.checkStateAndHold_on s hanswers i (a.postWrite_on s hanswers ..)

theorem Around.serveMatch_on (p : PrtEntry) (o : Offset) (n : Nat) : serveMatch p o n (a.on s) = a.on (serveMatch p o n s) := by
  unfold serveMatch
  split
  · exact a.answerRetry_on s hanswers _
  · exact a.answerRetry_on s hanswers _
  · simp [a.answerAbort_on _ hanswers]
  · unfold claimParked
    rw [Around.on_opState]
    split <;> simp [a.answerData_on _ hanswers]
  · simp [a.answerData_on _ hanswers]

theorem Around.parkRead_on (rt : ReadTreatment) (i : StreamNo) (l : Line) (o : Offset) (n : Nat) :
    parkRead rt i l o n (a.on s) = a.on (parkRead rt i l o n s) := by
  simp [parkRead, a.answerRetry_on _ hanswers]

theorem Around.parkRequest_on (rt : ReadTreatment) (i : StreamNo) (l : Line) (o : Offset) (n : Nat) :
    parkRequest rt i l o n (a.on s) = a.on (parkRequest rt i l o n s) := by
  unfold parkRequest
  rw [Around.on_prt]
  split
  · exact a.answerRetry_on s hanswers _
  · split
    · exact a.parkRead_on s hanswers ..
    · split
      · rw [a.freePrt_on, a.parkRead_on _ hanswers]
      · exact a.answerRetry_on s hanswers _

theorem Around.readTransaction_on (i : StreamNo) (addr : Address) (n : Nat) :
    readTransaction i addr n (a.on s) = a.on (readTransaction i addr n s) := by
  unfold readTransaction
  rw [Around.on_windows, Around.on_prt]
  split
  · exact a.abort_on s hanswers _
  · split
    · exact a.abort_on s hanswers _
    · split
      · exact a.abort_on s hanswers _
      · split
        · exact a.serveMatch_on s hanswers ..
        · exact a.checkStateAndHold_on s hanswers i (a.parkRequest_on s hanswers ..)

end

/-! ### Rows of the management port -/

/-- A row's action on the changed state: the same change of its result, and the same reply. -/
def Around.Through (a : Around) (action : State → State × Reply) (s : State) : Prop :=
  action (a.on s) = (a.on (action s).1, (action s).2)

theorem Around.writeTimer_through (k : TimerItem) (data : List Byte) : a.Through (writeTimer k data) s := by
  unfold Around.Through writeTimer
  split
  · rfl
  · split <;> rfl

theorem Around.writeWindow_through (w : WindowNo) (data : List Byte) : a.Through (writeWindow w data) s := by
  unfold Around.Through writeWindow
  split
  · rfl
  · split <;> rfl

theorem Around.writeOrderMode_through (i : StreamNo) (data : List Byte) : a.Through (writeOrderMode i data) s := by
  unfold Around.Through writeOrderMode
  rw [show orderModeWritable (a.on s) i = orderModeWritable s i from rfl]
  split
  · split
    · rfl
    · split <;> rfl
  · rfl

theorem Around.writeItemAction_through (r : FrameRequest) : a.Through (writeItemAction r) s := by
  unfold Around.Through writeItemAction
  split
  · exact a.writeTimer_through s _ _
  · exact a.writeWindow_through s _ _
  · exact a.writeOrderMode_through s _ _
  all_goals rfl

theorem Around.itemValue_on (it : Item) : itemValue (a.on s) it = itemValue s it := by
  cases it <;> rfl

theorem Around.rowAction_through (c : Instr) (r : FrameRequest) : a.Through (rowAction c r) s := by
  cases c with
  | writeItem => exact a.writeItemAction_through s r
  | writeItemWindow w => exact a.writeWindow_through s w _
  | writeItemTimer k => exact a.writeTimer_through s k _
  | writeItemOrderMode i => exact a.writeOrderMode_through s i _
  | readItem =>
    dsimp only [Around.Through, rowAction, readItemAction]
    split
    · rfl
    · rw [a.itemValue_on]
  | start =>
    dsimp only [Around.Through, rowAction, startAction]
    rw [Around.on_opState]
    split <;> rfl
  | stop =>
    dsimp only [Around.Through, rowAction, stopAction]
    rw [Around.on_opState]
    split <;> simp
  | clear =>
    dsimp only [Around.Through, rowAction, clearAction]
    rw [Around.on_opState]
    split <;> simp [clearAll]
  | takeNotice =>
    dsimp only [Around.Through, rowAction, takeNoticeAction]
    rw [Around.on_nq]
    split <;> rfl
  | takeErrorRecordForm =>
    dsimp only [Around.Through, rowAction, takeErrorAction, takeRecord]
    rw [Around.on_el]
    split
    · split <;> rfl
    · split <;> rfl
  | _ => rfl

theorem Around.takeFrame_on (c : Instr) (f : Frame) : takeFrame c f (a.on s) = a.on (takeFrame c f s) := by
  unfold takeFrame
  split
  · rfl
  · rename_i r _
    have h := a.rowAction_through s c r
    unfold Around.Through at h
    dsimp only
    rw [h]
    rfl

end

end Sys2Proof.Machine

/-! ## What the expiries and grants that are due leave, and the rows that stand for them (R15, R60, R61, R73, R81, R162). -/

namespace Sys2Proof.Machine

/-! ### What no expiry of another timer touches -/

/-- The tags stay, and a PRT entry of the id stays with its timer as due as it was, or leaves. -/
structure TimerStays (id : Nat) (u v : State) : Prop where
  tags : v.tags = u.tags
  read : ∀ q ∈ v.prt, q.id = id → ∃ p ∈ u.prt, p.id = id ∧ q.timerDue = p.timerDue

/-- R69: each PRT entry of the id has a due timer, and no tag fetches for it. -/
def TimerIsDue (id : Nat) (u : State) : Prop :=
  (∀ q ∈ u.prt, q.id = id → q.timerDue = true) ∧ ∀ (t : TagNo) (timer : Timer), u.tags[t] ≠ .busy (.prtEntry id) timer

namespace TimerStays

variable {id : Nat} {u v w : State}

theorem trans (h : TimerStays id u v) (h' : TimerStays id v w) : TimerStays id u w where
  tags := h'.tags.trans h.tags
  read q hq hid := by
    obtain ⟨p, hp, hpid, hdue⟩ := h'.read q hq hid
    obtain ⟨r, hr, hrid, hdue'⟩ := h.read p hp hpid
    exact ⟨r, hr, hrid, hdue.trans hdue'⟩

theorem of_sublist (htags : v.tags = u.tags) (hprt : v.prt.Sublist u.prt) : TimerStays id u v :=
  ⟨htags, fun q hq hid => ⟨q, hprt.subset hq, hid, rfl⟩⟩

theorem of_eq (htags : v.tags = u.tags) (hprt : v.prt = u.prt) : TimerStays id u v :=
  of_sublist htags (hprt ▸ List.Sublist.refl _)

theorem isDue (h : TimerStays id u v) (hdue : TimerIsDue id u) : TimerIsDue id v := by
  obtain ⟨hread, htags⟩ := hdue
  refine ⟨fun q hq hid => ?_, fun t timer => h.tags ▸ htags t timer⟩
  obtain ⟨p, hp, hpid, heq⟩ := h.read q hq hid
  exact heq.trans (hread p hp hpid)

end TimerStays

section
variable (id : Nat) (u : State)

theorem timerStays_offerError (r : ErrorRecord) : TimerStays id u (offerError r u) := by
  rw [offerError_frame]
  exact .of_eq rfl rfl

theorem timerStays_noticeOfLeaving (e : PqEntry) (o : ReleaseOutcome) : TimerStays id u (noticeOfLeaving e o u) := by
  rw [noticeOfLeaving_frame]
  exact .of_eq rfl rfl

theorem timerStays_checkDrain : TimerStays id u (checkDrain u) := by
  rw [checkDrain_frame]
  exact .of_eq rfl rfl

theorem timerStays_freePrt (gone : Nat) : TimerStays id u (freePrt gone u) := by
  rw [freePrt_frame]
  exact .of_sublist rfl List.eraseP_sublist

theorem timerStays_withoutHazards {v : State} (gone : List Nat) (htags : v.tags = u.tags)
    (hprt : v.prt = u.prt.map (PrtEntry.withoutHazards gone)) : TimerStays id u v := by
  refine ⟨htags, fun q hq hid => ?_⟩
  rw [hprt] at hq
  obtain ⟨p, hp, rfl⟩ := List.mem_map.mp hq
  exact ⟨p, hp, (p.withoutHazards_id gone).symm.trans hid, p.withoutHazards_timerDue gone⟩

theorem timerStays_voidPass : TimerStays id u (voidPass u) := by
  refine timerStays_withoutHazards id u ((voidedEntries u).map PqEntry.id) ?_ ?_
  · rw [voidPass_eq_fields]
    rfl
  · rw [voidPass_prt, prtAfterLeaving_eq]

theorem timerStays_failEntry (e : PqEntry) : TimerStays id u (failEntry e u) :=
  (((timerStays_withoutHazards id u (v := markFault e.stream (bump .entriesFailed (leavePq e.id u))) _ rfl rfl).trans
    (timerStays_noticeOfLeaving id _ e _)).trans (timerStays_voidPass id _)).trans (timerStays_checkDrain id _)

theorem timerStays_recordExhausted : TimerStays id u (recordExhausted u) := by
  unfold recordExhausted
  split
  · exact timerStays_offerError id u _
  · exact .of_eq rfl rfl

theorem timerStays_parkFetched {other : Nat} (h : other ≠ id) (r : Fetched) : TimerStays id u (parkFetched other r u) := by
  refine ⟨rfl, fun q hq hid => ?_⟩
  obtain ⟨p, hp, rfl⟩ := List.mem_map.mp hq
  split at hid
  · exact absurd (‹p.id = other›.symm.trans hid) h
  · rw [if_neg ‹_›]
    exact ⟨p, hp, hid, rfl⟩

/-- R81: the owner of a lapsed tag alone is told. -/
theorem timerStays_tellOwnerLapsed (t : TagNo) {o : Owner} (h : o ≠ .prtEntry id) : TimerStays id u (tellOwnerLapsed t o u) := by
  unfold tellOwnerLapsed
  split
  · split
    · exact (timerStays_offerError id u _).trans (timerStays_failEntry id _ _)
    · exact .of_eq rfl rfl
  · rename_i other
    split
    · exact (timerStays_offerError id u _).trans (timerStays_parkFetched id _ (fun heq => h (heq ▸ rfl)) _)
    · exact .of_eq rfl rfl
  · exact .of_eq rfl rfl

theorem timerIsDue_expireMemory (t : TagNo) (h : TimerIsDue id u) : TimerIsDue id (expireMemory t u) := by
  rcases expireMemory_cases t u with heq | ⟨o, timer, htag, -, heq⟩ <;> rw [heq]
  · exact h
  · obtain ⟨hread, htags⟩ := h
    have hlapsed : TimerIsDue id (bump .memTimeouts (setTag t .lapsed u)) := by
      refine ⟨hread, fun k timer' hk => ?_⟩
      change (setTag t .lapsed u).tags[k] = _ at hk
      rw [setTag_get] at hk
      split at hk
      · cases hk
      · exact htags k timer' hk
    have howner : o ≠ .prtEntry id := fun heq => htags t timer (heq ▸ htag)
    exact ((timerStays_tellOwnerLapsed id _ t howner).trans (timerStays_recordExhausted id _)).isDue hlapsed

theorem timerIsDue_foldl {α : Type} {f : State → α → State} (h : ∀ v a, TimerIsDue id v → TimerIsDue id (f v a)) (l : List α)
    (hu : TimerIsDue id u) : TimerIsDue id (l.foldl f u) := by
  induction l generalizing u with
  | nil => exact hu
  | cons a l ih => exact ih _ (h u a hu)

theorem timerStays_expireClaim (i : StreamNo) (l : Line) : TimerStays id u (expireClaim i l u) := by
  rcases expireClaim_cases i l u with h | ⟨p, -, -, -, -, h⟩ <;> rw [h]
  · exact .of_eq rfl rfl
  · exact ((timerStays_offerError id u _).trans (.of_eq (v := bump .readsUnclaimed _) rfl rfl)).trans (timerStays_freePrt id _ _)

theorem timerStays_expireLinger (i : StreamNo) (l : Line) : TimerStays id u (expireLinger i l u) := by
  rcases expireLinger_cases i l u with h | ⟨p, -, -, -, -, h⟩ <;> rw [h]
  · exact .of_eq rfl rfl
  · exact timerStays_freePrt id u _

/-- A due entry of the PRT for which no tag fetches stays due until its own expiry. -/
theorem timerIsDue_takeDueExpiries (h : TimerIsDue id u) : TimerIsDue id (takeDueExpiries u) := by
  rw [takeDueExpiries_eq]
  refine timerIsDue_foldl id _ (fun v p => (timerStays_expireLinger id v _ _).isDue) _ ?_
  refine timerIsDue_foldl id _ (fun v p => (timerStays_expireClaim id v _ _).isDue) _ ?_
  refine timerIsDue_foldl id _ (fun v i => (TimerStays.of_eq (id := id) (v := expireCombineAge i v) rfl rfl).isDue) _ ?_
  exact timerIsDue_foldl id u (fun v t => timerIsDue_expireMemory id v t) _ h

end

/-! ### The tags -/

section
variable (s : State)

theorem mem_allStreams (i : StreamNo) : i ∈ allStreams := by
  revert i
  decide

theorem tags_tellOwnerLapsed (t : TagNo) (o : Owner) : (tellOwnerLapsed t o s).tags = s.tags := by
  cases o with
  | prtEntry id =>
    dsimp only [tellOwnerLapsed]
    split
    · exact (timerStays_offerError id s _).tags
    · rfl
  | pqEntry id => exact (timerStays_tellOwnerLapsed 0 s t (o := .pqEntry id) nofun).tags
  | orphan => rfl

/-- R81: a memory time-out lapses its tag where it is due, and no other. -/
theorem expireMemory_get (t k : TagNo) :
    (expireMemory t s).tags[k] = if k = t ∧ s.tags[k].due = true then .lapsed else s.tags[k] := by
  by_cases hdue : s.tags[t].due = true
  · cases htag : s.tags[t] <;> rw [htag] at hdue
    case busy o timer =>
      have hexp : expireMemory t s = recordExhausted (tellOwnerLapsed t o (bump .memTimeouts (setTag t .lapsed s))) := by
        unfold expireMemory
        rw [htag]
        exact if_pos hdue
      have htags : (expireMemory t s).tags = (setTag t .lapsed s).tags := by
        rw [hexp, (timerStays_recordExhausted 0 _).tags, tags_tellOwnerLapsed]
        rfl
      rw [htags, setTag_get]
      by_cases hk : k = t
      · subst hk
        rw [if_pos rfl, htag, if_pos ⟨rfl, hdue⟩]
      · rw [if_neg hk, if_neg fun h => hk h.1]
    all_goals cases hdue
  · have hsame : expireMemory t s = s := by
      rcases expireMemory_cases t s with h | ⟨o, timer, htag, htimer, -⟩
      · exact h
      · exact absurd (htag ▸ htimer) hdue
    rw [hsame]
    refine (if_neg ?_).symm
    rintro ⟨rfl, h⟩
    exact hdue h

theorem foldl_expireMemory_get (l : List TagNo) (k : TagNo) :
    (l.foldl (fun acc t => expireMemory t acc) s).tags[k] = if k ∈ l ∧ s.tags[k].due = true then .lapsed else s.tags[k] := by
  induction l generalizing s with
  | nil => simp
  | cons t l ih =>
    rw [List.foldl_cons, ih, expireMemory_get]
    by_cases hk : k = t ∧ s.tags[k].due = true
    · rw [if_pos hk, if_neg fun h => Bool.false_ne_true h.2, if_pos ⟨hk.1 ▸ List.mem_cons_self, hk.2⟩]
    · rw [if_neg hk]
      refine if_congr ⟨fun ⟨hmem, hdue⟩ => ⟨List.mem_cons_of_mem _ hmem, hdue⟩, fun ⟨hmem, hdue⟩ => ⟨?_, hdue⟩⟩ rfl rfl
      exact (List.mem_cons.mp hmem).resolve_left fun heq => hk ⟨heq, hdue⟩

/-- R81: each due tag lapses, and no other tag changes. -/
theorem takeDueExpiries_get (k : TagNo) :
    (takeDueExpiries s).tags[k] = if s.tags[k].due = true then .lapsed else s.tags[k] := by
  have hfree (l : List PrtEntry) (v : State) : (freeUnclaimed l v).tags = v.tags := by
    induction l generalizing v with
    | nil => rfl
    | cons p l ih => exact (ih _).trans (timerStays_expireClaim 0 v _ _).tags
  have hlinger (l : List PrtEntry) (v : State) : (freeLingered l v).tags = v.tags := by
    induction l generalizing v with
    | nil => rfl
    | cons p l ih => exact (ih _).trans (timerStays_expireLinger 0 v _ _).tags
  have hseal (l : List StreamNo) (v : State) : (l.foldl (fun acc i => expireCombineAge i acc) v).tags = v.tags := by
    induction l generalizing v with
    | nil => rfl
    | cons i l ih => exact ih _
  have htags : (takeDueExpiries s).tags = (lapseTags s).tags := by
    rw [takeDueExpiries_eq, hlinger, hfree]
    exact hseal _ _
  rw [htags, lapseTags, foldl_expireMemory_get]
  exact if_congr (and_iff_right (mem_allTags k)) rfl rfl

/-! ### The combine ages -/

/-- R15: after the expiries of some streams an entry whose age is due is of none of them. -/
theorem ageDue_foldl_expireCombineAge (l : List StreamNo) {x : PqEntry} (hx : x ∈ (l.foldl (fun acc i => expireCombineAge i acc) s).pq)
    (hdue : x.ageDue = true) : x ∈ s.pq ∧ x.stream ∉ l := by
  induction l generalizing s with
  | nil => exact ⟨hx, List.not_mem_nil⟩
  | cons i l ih =>
    obtain ⟨hmem, hl⟩ := ih _ hx
    obtain ⟨e, he, rfl⟩ := List.mem_map.mp hmem
    by_cases hcause : (e.stream == i && e.ageDue) = true
    · rw [if_pos hcause] at hdue
      have hsealed : e.toSealed.ageDue = false := by
        obtain ⟨id, j, line, bytes, kind, state⟩ := e
        cases state <;> rfl
      exact absurd (hsealed.symm.trans hdue) (by decide)
    · rw [if_neg hcause] at hdue hl ⊢
      refine ⟨he, fun h => ?_⟩
      rcases List.mem_cons.mp h with hi | h
      · exact hcause (by simp [hi, hdue])
      · exact hl h

theorem pq_freeUnclaimed (l : List PrtEntry) (v : State) : (freeUnclaimed l v).pq = v.pq := by
  induction l generalizing v with
  | nil => rfl
  | cons p l ih =>
    refine (ih (expireClaim p.stream p.line v)).trans ?_
    rcases expireClaim_cases p.stream p.line v with h | ⟨q, -, -, -, -, h⟩ <;> rw [h]
    rw [freePrt_frame, offerError_frame]
    rfl

theorem pq_freeLingered (l : List PrtEntry) (v : State) : (freeLingered l v).pq = v.pq := by
  induction l generalizing v with
  | nil => rfl
  | cons p l ih =>
    refine (ih (expireLinger p.stream p.line v)).trans ?_
    rcases expireLinger_cases p.stream p.line v with h | ⟨q, -, -, -, -, h⟩ <;> rw [h]
    rw [freePrt_frame]
    rfl

/-- R15: no age stays at its limit. -/
theorem ageDue_takeDueExpiries {x : PqEntry} (hx : x ∈ (takeDueExpiries s).pq) : x.ageDue = false := by
  rw [takeDueExpiries_eq, pq_freeLingered, pq_freeUnclaimed] at hx
  by_contra hdue
  obtain ⟨-, hnot⟩ := ageDue_foldl_expireCombineAge _ _ hx (Bool.not_eq_false _ ▸ hdue)
  exact hnot (mem_allStreams _)

/-! ### The claim and linger timers -/

/-- R44: the entry of the stream and line of an entry is that entry. -/
theorem prtEntryAt_of_mem {u : State} (h : ReadsApart u) {p : PrtEntry} (hp : p ∈ u.prt) : prtEntryAt u.prt p.stream p.line = some p := by
  obtain ⟨q, hq⟩ := Option.isSome_iff_exists.mp ((prtEntryAt_isSome_iff u.prt p.stream p.line).mpr ⟨p, hp, rfl, rfl⟩)
  have hat := List.find?_some hq
  simp only [Bool.and_eq_true, beq_iff_eq] at hat
  have hsymm : Std.Symm fun p q : PrtEntry => ¬(p.stream = q.stream ∧ p.line = q.line) :=
    ⟨fun _ _ hne heq => hne ⟨heq.1.symm, heq.2.symm⟩⟩
  by_contra hne
  exact h.lines.forall (List.mem_of_find?_eq_some hq) hp (fun heq => hne (heq ▸ hq)) hat

theorem not_mem_freePrt {u : State} (h : ReadsApart u) (p : PrtEntry) : p ∉ (freePrt p.id u).prt := by
  rw [freePrt_eq h.ids]
  simp [prtWithout]

/-- An expiry of a stream and line that frees entries alone, the due entry there among them. -/
structure FreesDue (due : PrtEntry → Bool) (expire : StreamNo → Line → State → State) : Prop where
  follows : ∀ i l u, Follows u (expire i l u)
  sublist : ∀ i l u, (expire i l u).prt.Sublist u.prt
  frees : ∀ u p, ReadsApart u → p ∈ u.prt → due p = true → p ∉ (expire p.stream p.line u).prt

theorem freesDue_expireClaim : FreesDue PrtEntry.claimDue expireClaim where
  follows i l u := follows_expireClaim u i l
  sublist i l u := by
    rcases expireClaim_cases i l u with h | ⟨p, -, -, -, -, h⟩ <;> rw [h]
    rw [freePrt_frame, offerError_frame]
    exact List.eraseP_sublist
  frees u p hapart hp hdue := by
    have hreported : ReadsApart (bump .readsUnclaimed (offerError (.readUnclaimed p.stream p.line) u)) :=
      ((follows_offerError u _).trans (follows_bump _ _)).apart hapart
    unfold expireClaim
    rw [prtEntryAt_of_mem hapart hp]
    dsimp only
    rw [if_pos hdue]
    exact not_mem_freePrt hreported p

theorem freesDue_expireLinger : FreesDue PrtEntry.lingerDue expireLinger where
  follows i l u := follows_expireLinger u i l
  sublist i l u := by
    rcases expireLinger_cases i l u with h | ⟨p, -, -, -, -, h⟩ <;> rw [h]
    rw [freePrt_frame]
    exact List.eraseP_sublist
  frees u p hapart hp hdue := by
    unfold expireLinger
    rw [prtEntryAt_of_mem hapart hp]
    dsimp only
    rw [if_pos hdue]
    exact not_mem_freePrt hapart p

namespace FreesDue

variable {due : PrtEntry → Bool} {expire : StreamNo → Line → State → State} (h : FreesDue due expire)
include h

theorem sublist_foldl (l : List PrtEntry) (u : State) :
    (l.foldl (fun acc (p : PrtEntry) => expire p.stream p.line acc) u).prt.Sublist u.prt := by
  induction l generalizing u with
  | nil => exact List.Sublist.refl _
  | cons p l ih => exact (ih _).trans (h.sublist _ _ u)

/-- After the expiries of some entries none of them is there with its timer due. -/
theorem not_due_foldl (l : List PrtEntry) {u : State} (hapart : ReadsApart u) {q : PrtEntry}
    (hq : q ∈ (l.foldl (fun acc (p : PrtEntry) => expire p.stream p.line acc) u).prt) (hdue : due q = true) : q ∉ l := by
  induction l generalizing u with
  | nil => exact List.not_mem_nil
  | cons p l ih =>
    intro hmem
    rcases List.mem_cons.mp hmem with rfl | hmem
    · have hlater := (h.sublist_foldl l _).subset hq
      exact h.frees u q hapart ((h.sublist _ _ u).subset hlater) hdue hlater
    · exact ih ((h.follows _ _ u).apart hapart) hq hmem

theorem not_due {u : State} (hapart : ReadsApart u) {q : PrtEntry}
    (hq : q ∈ (u.prt.foldl (fun acc (p : PrtEntry) => expire p.stream p.line acc) u).prt) : due q = false := by
  by_contra hdue
  exact h.not_due_foldl u.prt hapart hq (Bool.not_eq_false _ ▸ hdue) ((h.sublist_foldl u.prt u).subset hq)

end FreesDue

/-! ### After the expiries and the grants nothing is due -/

theorem PrtEntry.timerDue_eq_false_iff (p : PrtEntry) : p.timerDue = false ↔ p.claimDue = false ∧ p.lingerDue = false := by
  simp [PrtEntry.timerDue]

/-- R60, R61: no claim or linger timer stays at its limit. -/
theorem timerDue_takeDueExpiries (hapart : ReadsApart s) {q : PrtEntry} (hq : q ∈ (takeDueExpiries s).prt) : q.timerDue = false := by
  have hsealed : ReadsApart (sealAged (lapseTags s)) := ((follows_lapseTags s).trans (follows_sealAged _)).apart hapart
  rw [takeDueExpiries_eq] at hq
  refine q.timerDue_eq_false_iff.mpr ⟨?_, ?_⟩
  · exact freesDue_expireClaim.not_due hsealed ((freesDue_expireLinger.sublist_foldl _ _).subset hq)
  · exact freesDue_expireLinger.not_due ((follows_freeUnclaimed _ _).apart hsealed) hq

theorem nothingDue_takeDueExpiries (hapart : ReadsApart s) : nothingDue (takeDueExpiries s) := by
  refine ⟨fun x hx => ageDue_takeDueExpiries s hx, fun q hq => ?_, fun t => ?_⟩
  · exact q.timerDue_eq_false_iff.mp (timerDue_takeDueExpiries s hapart hq)
  · rw [takeDueExpiries_get]
    split
    · rfl
    · exact Bool.not_eq_true _ ▸ ‹_›

end

section
variable {s u v : State}

/-- Where nothing is due, no event but the tick makes anything due. -/
theorem TimersFollow.nothingDue (h : TimersFollow u v) (hs : u.timersStart) (hnone : nothingDue u) : nothingDue v := by
  obtain ⟨hage, hread, htag⟩ := hnone
  refine ⟨fun x hx => ?_, fun q hq => ?_, fun t => ?_⟩
  · cases hopen : x.isOpen with
    | false =>
      obtain ⟨id, i, l, bytes, kind, state⟩ := x
      cases state with
      | opened age => cases hopen
      | _ => rfl
    | true =>
      rcases h.opens x hx hopen with ⟨y, hy, -, hstate⟩ | ⟨-, hdue⟩
      · exact PqEntry.ageDue_congr hstate ▸ hage y hy
      · exact hdue
  · rw [← q.timerDue_eq_false_iff]
    by_contra hdue
    obtain ⟨p, hp, hpdue⟩ := h.readsDue hs q hq (Bool.not_eq_false _ ▸ hdue)
    rw [p.timerDue_eq_false_iff.mpr (hread p hp)] at hpdue
    cases hpdue
  · by_contra hdue
    have := h.tagsDue hs t (Bool.not_eq_false _ ▸ hdue)
    rw [htag t] at this
    cases this

theorem readsApart_of_inv (hinv : Inv s) : ReadsApart s := by
  obtain ⟨-, hids, -, hfresh⟩ := hinv.distinct
  exact ⟨hids, hfresh, hinv.reads.1⟩

theorem timersStart_of_inv (hinv : Inv s) : s.timersStart := by
  obtain ⟨-, hclaim, -, hlinger, -, hmem, -⟩ := hinv.items
  exact ⟨hclaim, hlinger, (by decide : 1 ≤ 10).trans hmem⟩

theorem nothingDue_takeDue (hapart : ReadsApart s) (hs : s.timersStart) : nothingDue (takeDue s) :=
  (follows_takeDueGrants _).toTimersFollow.nothingDue ((follows_takeDueExpiries s).start hs) (nothingDue_takeDueExpiries s hapart)

/-- R14: a seal without a cause changes nothing. -/
theorem sealWhere_of_no_cause {cause : PqEntry → Bool} (h : ∀ e ∈ s.pq, cause e = false) : sealWhere cause s = s := by
  have hpq : (sealWhere cause s).pq = s.pq := by
    rw [sealWhere_pq]
    exact (List.map_congr_left fun e he => if_neg (by simp [h e he])).trans (List.map_id _)
  have hstreams : (sealWhere cause s).streams = s.streams := by
    refine Vector.ext fun i hi => ?_
    refine (sealWhere_stream cause s ⟨i, hi⟩).trans (if_neg ?_)
    simp only [List.any_eq_true, Bool.and_eq_true, not_exists, not_and]
    intro e he hcause
    rw [h e he] at hcause
    cases hcause.2
  rw [sealWhere_frame, hpq, hstreams]
  rfl

/-- R162: with no timer at its limit nothing expires. -/
theorem takeDueExpiries_of_nothingDue (h : nothingDue s) : takeDueExpiries s = s := by
  obtain ⟨hage, hread, htag⟩ := h
  have hmem (t : TagNo) : expireMemory t s = s := by
    rcases expireMemory_cases t s with heq | ⟨o, timer, hbusy, hdue, -⟩
    · exact heq
    · have hnot := htag t
      rw [hbusy] at hnot
      exact absurd (hnot.symm.trans hdue) (by decide)
  have hcombine (i : StreamNo) : expireCombineAge i s = s := sealWhere_of_no_cause fun e he => by simp [hage e he]
  have hclaim (i : StreamNo) (l : Line) : expireClaim i l s = s := by
    rcases expireClaim_cases i l s with heq | ⟨p, hp, -, -, hdue, -⟩
    · exact heq
    · exact absurd ((hread p hp).1.symm.trans hdue) (by decide)
  have hlinger (i : StreamNo) (l : Line) : expireLinger i l s = s := by
    rcases expireLinger_cases i l s with heq | ⟨p, hp, -, -, hdue, -⟩
    · exact heq
    · exact absurd ((hread p hp).2.symm.trans hdue) (by decide)
  have hfold {α : Type} {f : State → α → State} (hf : ∀ a, f s a = s) (l : List α) : l.foldl f s = s :=
    List.foldl_fixed' hf l
  have hlapse : lapseTags s = s := hfold hmem _
  have hseal : sealAged s = s := hfold hcombine _
  have hfree (l : List PrtEntry) : freeUnclaimed l s = s := hfold (fun p : PrtEntry => hclaim p.stream p.line) l
  have hfree' (l : List PrtEntry) : freeLingered l s = s := hfold (fun p : PrtEntry => hlinger p.stream p.line) l
  rw [takeDueExpiries_eq, hlapse, hseal, hfree, hfree']

theorem takeDueGrants_of_not_due (h : grantDue s = false) : takeDueGrants s = s :=
  List.foldl_fixed' (fun _ => grantOnce_of_not_due h) _

theorem takeDue_of_nothingDue (hnone : nothingDue s) (hgrant : grantDue s = false) : takeDue s = s := by
  rw [takeDue, takeDueExpiries_of_nothingDue hnone, takeDueGrants_of_not_due hgrant]

end

/-! ### The rows that stand for the expiries and grants -/

theorem runsTo_append {rows more : List Instr} {u v w : State} (h : runsTo rows u v) (h' : runsTo more v w) :
    runsTo (rows ++ more) u w := by
  induction rows generalizing u with
  | nil =>
    obtain rfl : u = v := h
    exact h'
  | cons c rows ih =>
    obtain ⟨x, hexec, hrest⟩ := h
    exact ⟨x, hexec, ih hrest⟩

theorem timersRun_of_outside {u v : State} (h : u.outside = v.outside) : timersRun u = timersRun v := by
  rw [timersRun, timersRun, por_of_outside h, refclkStopped_of_outside h]
  rfl

/-- Expiry rows lead from the first state to the second. -/
def ExpiresTo (u v : State) : Prop :=
  ∃ rows, (∀ r ∈ rows, isExpiry r) ∧ runsTo rows u v

theorem ExpiresTo.refl (u : State) : ExpiresTo u u :=
  ⟨[], nofun, rfl⟩

theorem ExpiresTo.trans {u v w : State} (h : ExpiresTo u v) (h' : ExpiresTo v w) : ExpiresTo u w := by
  obtain ⟨rows, hrows, hrun⟩ := h
  obtain ⟨more, hmore, hrun'⟩ := h'
  exact ⟨rows ++ more, fun r hr => (List.mem_append.mp hr).elim (hrows r) (hmore r), runsTo_append hrun hrun'⟩

/-- While timers run, expiries one after another are their rows one after another. -/
theorem expiresTo_foldl {α : Type} {f : State → α → State} (row : α → Instr) (hrow : ∀ a, isExpiry (row a))
    (hout : ∀ u a, (f u a).outside = u.outside) (hexec : ∀ u a, exec (row a) u = .next (if timersRun u then f u a else u)) (l : List α)
    {u : State} (hrun : timersRun u = true) : ExpiresTo u (l.foldl f u) ∧ timersRun (l.foldl f u) = true := by
  induction l generalizing u with
  | nil => exact ⟨.refl u, hrun⟩
  | cons a l ih =>
    obtain ⟨hto, hrun'⟩ := ih ((timersRun_of_outside (hout u a)).trans hrun)
    have hstep : ExpiresTo u (f u a) :=
      ⟨[row a], fun r hr => List.mem_singleton.mp hr ▸ hrow a, f u a, by rw [hexec, if_pos hrun], rfl⟩
    exact ⟨hstep.trans hto, hrun'⟩

section
variable {s : State} (hrun : timersRun s = true)
include hrun

theorem expiresTo_lapseTags : ExpiresTo s (lapseTags s) ∧ timersRun (lapseTags s) = true :=
  expiresTo_foldl (f := fun u t => expireMemory t u) (fun t => .memoryTimeOut t) (fun t => .inr (.inr (.inr ⟨t, rfl⟩)))
    (fun u t => outside_expireMemory u t) (fun _ _ => rfl) allTags hrun

theorem expiresTo_sealAged : ExpiresTo s (sealAged s) ∧ timersRun (sealAged s) = true :=
  expiresTo_foldl (f := fun u i => expireCombineAge i u) (fun i => .combineAgeExpiry i) (fun i => .inl ⟨i, rfl⟩) (fun _ _ => rfl)
    (fun _ _ => rfl) allStreams hrun

theorem expiresTo_freeUnclaimed (l : List PrtEntry) : ExpiresTo s (freeUnclaimed l s) ∧ timersRun (freeUnclaimed l s) = true :=
  expiresTo_foldl (f := fun u (p : PrtEntry) => expireClaim p.stream p.line u) (fun p => .claimTimeOut p.stream p.line)
    (fun _ => .inr (.inl ⟨_, _, rfl⟩)) (fun u _ => outside_expireClaim u _ _) (fun _ _ => rfl) l hrun

theorem expiresTo_freeLingered (l : List PrtEntry) : ExpiresTo s (freeLingered l s) ∧ timersRun (freeLingered l s) = true :=
  expiresTo_foldl (f := fun u (p : PrtEntry) => expireLinger p.stream p.line u) (fun p => .lingerTimerExpiry p.stream p.line)
    (fun _ => .inr (.inr (.inl ⟨_, _, rfl⟩))) (fun u _ => outside_expireLinger u _ _) (fun _ _ => rfl) l hrun

/-- R162: while timers run, what is due expires by expiry rows. -/
theorem expiresTo_takeDueExpiries : ExpiresTo s (takeDueExpiries s) := by
  obtain ⟨hlapse, hrunLapsed⟩ := expiresTo_lapseTags hrun
  obtain ⟨hseal, hrunSealed⟩ := expiresTo_sealAged hrunLapsed
  obtain ⟨hclaim, hrunFreed⟩ := expiresTo_freeUnclaimed hrunSealed (sealAged (lapseTags s)).prt
  obtain ⟨hlinger, -⟩ := expiresTo_freeLingered hrunFreed (freeUnclaimed (sealAged (lapseTags s)).prt (sealAged (lapseTags s))).prt
  rw [takeDueExpiries_eq]
  exact ((hlapse.trans hseal).trans hclaim).trans hlinger

end

/-- The requests sent before those that follow. -/
def Around.sent (x : List LinkRequest) : Around :=
  { Around.keep with requests := (x ++ ·) }

theorem Around.sent_keepsRequests (x : List LinkRequest) : (Around.sent x).KeepsRequests :=
  fun y z => (List.append_assoc x y z).symm

theorem Around.sent_on (x : List LinkRequest) (u : State) : (Around.sent x).on u = u.setRequests (x ++ u.requests) := rfl

theorem foldl_grantOnce_split (l : List TagNo) (u : State) :
    ∃ sent v, grantsTo sent u v ∧ ∀ x, l.foldl (fun acc _ => grantOnce acc) (u.setRequests x) = v.setRequests (x ++ sent) := by
  induction l generalizing u with
  | nil => exact ⟨[], u, rfl, fun x => by rw [List.append_nil]; rfl⟩
  | cons t l ih =>
    cases hdue : grantDue u with
    | false =>
      obtain ⟨sent, v, hto, hsent⟩ := ih u
      refine ⟨sent, v, hto, fun x => ?_⟩
      rw [List.foldl_cons, grantOnce_of_not_due (s := u.setRequests x) hdue]
      exact hsent x
    | true =>
      obtain ⟨r, hr⟩ := grantOnce_requests_of_due (s := u.setRequests []) hdue
      obtain ⟨sent, v, hto, hsent⟩ := ih (grantOnce (u.setRequests []))
      refine ⟨r :: sent, v, ⟨_, rfl, hr, hto⟩, fun x => ?_⟩
      have hbefore : u.setRequests x = (Around.sent x).on (u.setRequests []) :=
        congrArg u.setRequests (List.append_nil x).symm
      have hstep : grantOnce (u.setRequests x) = (grantOnce (u.setRequests [])).setRequests (x ++ [r]) := by
        rw [hbefore, Around.grantOnce_on _ _ (Around.sent_keepsRequests x), Around.sent_on, hr]
        rfl
      rw [List.foldl_cons, hstep, hsent, List.append_assoc]
      rfl

/-- R73: GRANT after GRANT until none is due; each sends one request, in order. -/
theorem grantsTo_takeDueGrants (u : State) :
    ∃ sent v, grantsTo sent u v ∧ grantDue v = false ∧ ∀ x, takeDueGrants (u.setRequests x) = v.setRequests (x ++ sent) := by
  obtain ⟨sent, v, hto, hsent⟩ := foldl_grantOnce_split allTags u
  refine ⟨sent, v, hto, ?_, hsent⟩
  have hnone := grantDue_takeDueGrants (u.setRequests [])
  rw [takeDueGrants, hsent] at hnone
  exact hnone

end Sys2Proof.Machine

/-! ## A REFCLK cycle or tick in its parts: the inputs, what is due, what is held, the count, and what is due before a stop (R162). -/

namespace Sys2Proof.Machine

/-! ### The parts -/

/-- The state at which the cycle takes what is due: the inputs are in and the outputs of the command before are gone. -/
def cycleStart (c : Instr) (s : State) : State :=
  clearOutputs (if c = .tick then s else takeInput s)

/-- R162: the command completes a tick: a TICK, or the cycle at the count of 49. -/
def ticksAt (c : Instr) (s : State) : Bool :=
  decide (c = .tick ∨ s.tbCount = 49)

/-- R162: the count of REFCLK cycles after the command. -/
def countAfter (c : Instr) (s : State) : Fin 50 :=
  if ticksAt c s then 0 else s.tbCount + 1

/-- REFCLK stops after the cycle; after a TICK it runs. -/
def stopsAfter (c : Instr) (s : State) : Bool :=
  !decide (c = .tick) && s.nextInput.stops

/-- R162: the cycle counts. -/
def countCycle (ticks : Bool) (count : Fin 50) (s : State) : State :=
  (if ticks then advanceTimers s else s).setTbCount count

/-- The cycle from the events that are held on. -/
def finishCycle (ticks : Bool) (count : Fin 50) (stops : Bool) (s : State) : State :=
  (takeDueBeforeStop stops (countCycle ticks count (takeAllHeld s))).setRefclkStopped stops

theorem takeInput_tbCount (s : State) : (takeInput s).tbCount = s.tbCount := by
  unfold takeInput
  rcases edgesArrive_cases s.nextInput.edges (s.setCycleInputs s.cycleInputs.tail) with ⟨-, -, h⟩ | ⟨-, h⟩ <;> rw [h] <;> rfl

theorem refclkOnce_eq (s : State) :
    refclkOnce s = countCycle (decide (s.tbCount = 49)) (if s.tbCount = 49 then 0 else s.tbCount + 1) (takeWaiting s) := by
  unfold refclkOnce countCycle tickOnce
  by_cases h : s.tbCount = 49 <;> simp [h]

/-- R162: a cycle is its parts, one after another. -/
theorem exec_cycle {c : Instr} (hc : c = .tick ∨ c = .refclkCycle) {s : State} (hpor : s.por = false) :
    exec c s = .next (finishCycle (ticksAt c s) (countAfter c s) (stopsAfter c s) (takeDue (cycleStart c s))) := by
  rcases hc with rfl | rfl
  · change Host.Outcome.next (if s.por then s else (tickOnce s).setRefclkStopped false) = _
    rw [if_neg (Bool.eq_false_iff.mp hpor)]
    simp [ticksAt, countAfter, stopsAfter, finishCycle, cycleStart, takeWaiting, tickOnce, countCycle, takeDueBeforeStop]
  · rw [exec_refclkCycle, if_neg (Bool.eq_false_iff.mp hpor), refclkOnce_eq, takeInput_tbCount]
    simp [ticksAt, countAfter, stopsAfter, finishCycle, cycleStart, takeWaiting]

/-! ### What each part keeps -/

section
variable {P : State → Prop} (hfollow : ∀ u v, TimersFollow u v → P u → P v) (hadvance : ∀ u, P u → P (advanceTimers u))
include hfollow hadvance

theorem countCycle_keeps (ticks : Bool) (count : Fin 50) {s : State} (hs : P s) : P (countCycle ticks count s) := by
  have hticked : P (if ticks then advanceTimers s else s) := by
    split
    · exact hadvance _ hs
    · exact hs
  exact hfollow _ _ (Follows.of_eq (timersView_setTbCount _ count)).toTimersFollow hticked

/-- What every event but the tick keeps, and the tick, a cycle keeps. -/
theorem finishCycle_keeps (ticks : Bool) (count : Fin 50) (stops : Bool) {s : State} (hs : P s) : P (finishCycle ticks count stops s) := by
  have hheld : P (takeAllHeld s) := hfollow s _ (timersFollow_takeHeldUpTo s _) hs
  have hcounted := countCycle_keeps hfollow hadvance ticks count hheld
  have hstops : P (takeDueBeforeStop stops (countCycle ticks count (takeAllHeld s))) := by
    rcases takeDueBeforeStop_cases stops (countCycle ticks count (takeAllHeld s)) with ⟨-, h⟩ | ⟨-, h⟩ <;> rw [h]
    · exact hfollow _ _ (follows_takeDue _).toTimersFollow hcounted
    · exact hcounted
  exact hfollow _ _ (Follows.of_eq (timersView_setRefclkStopped _ stops)).toTimersFollow hstops

end

/-- What lets every due timer expire: the PRT's entries are told apart, and timers start below their limits. -/
def TimersReady (s : State) : Prop :=
  ReadsApart s ∧ s.timersStart

theorem timersReady_of_inv {s : State} (hinv : Inv s) : TimersReady s :=
  ⟨readsApart_of_inv hinv, timersStart_of_inv hinv⟩

theorem TimersReady.follow {u v : State} (h : TimersFollow u v) (hu : TimersReady u) : TimersReady v :=
  ⟨h.apart hu.1, h.start hu.2⟩

theorem PrtEntry.advanced_key (p : PrtEntry) : p.advanced.key = p.key := by
  obtain ⟨id, i, l, o, n, ra, st⟩ := p
  cases st <;> rfl

/-- R162: a tick advances timers alone. -/
theorem TimersReady.advanceTimers {u : State} (hu : TimersReady u) : TimersReady (advanceTimers u) := by
  have hkeys : (Machine.advanceTimers u).prt.map PrtEntry.key = u.prt.map PrtEntry.key := by
    change (u.prt.map PrtEntry.advanced).map PrtEntry.key = _
    rw [List.map_map]
    exact List.map_congr_left fun p _ => p.advanced_key
  exact ⟨hu.1.of_sublist (hkeys ▸ List.Sublist.refl _) Nat.le.refl, hu.2⟩

/-! ### What is due, as rows and grants -/

/-- R73: where nothing is due, GRANT after GRANT takes the grants that are due, and so it is with a change around the tables. -/
theorem takeDueGrants_split {u : State} (hstart : u.timersStart) (hnone : nothingDue u) :
    ∃ sent v, grantsTo sent u v ∧ nothingDue v ∧ grantDue v = false ∧ v.outside = u.outside ∧
      ∀ a : Around, (∀ x, a.requests x = []) → takeDueGrants (a.on u) = (a.on v).setRequests sent := by
  obtain ⟨sent, v, hgrants, hnotDue, hsent⟩ := grantsTo_takeDueGrants u
  have hall : takeDueGrants (u.setRequests []) = v.setRequests sent := hsent []
  have hlater : nothingDue (v.setRequests sent) :=
    hall ▸ (follows_takeDueGrants _).toTimersFollow.nothingDue (u := u.setRequests []) hstart hnone
  have hout : (v.setRequests sent).outside = u.outside := hall ▸ outside_takeDueGrants (u.setRequests [])
  refine ⟨sent, v, hgrants, hlater, hnotDue, hout, fun a ha => ?_⟩
  have hkeeps : { a with requests := id : Around }.KeepsRequests := fun _ _ => rfl
  have hbefore : a.on u = { a with requests := id : Around }.on (u.setRequests []) :=
    congrArg (State.setRequests (a.on u)) (ha u.requests)
  rw [hbefore, Around.takeDueGrants_on _ _ hkeeps, hall]
  rfl

/-- R162, R73: what is due is taken by expiry rows and then by GRANT after GRANT, and so it is with a change around the tables. -/
theorem takeDue_split {s : State} (hready : TimersReady s) (hrun : timersRun s = true ∨ nothingDue s) :
    ∃ (rows : List Instr) (sent : List LinkRequest) (u v : State), (∀ r ∈ rows, isExpiry r) ∧ runsTo rows s u ∧ grantsTo sent u v ∧
      nothingDue v ∧ grantDue v = false ∧ v.outside = s.outside ∧
        ∀ a : Around, (∀ x, a.requests x = []) → takeDue (a.on s) = (a.on v).setRequests sent := by
  obtain ⟨hapart, hstart⟩ := hready
  have hexpires : ExpiresTo s (takeDueExpiries s) := by
    rcases hrun with hrun | hnone
    · exact expiresTo_takeDueExpiries hrun
    · rw [takeDueExpiries_of_nothingDue hnone]
      exact .refl s
  obtain ⟨rows, hrows, hruns⟩ := hexpires
  obtain ⟨sent, v, hgrants, hnone, hnotDue, hout, hsent⟩ :=
    takeDueGrants_split ((follows_takeDueExpiries s).start hstart) (nothingDue_takeDueExpiries s hapart)
  refine ⟨rows, sent, _, v, hrows, hruns, hgrants, hnone, hnotDue, hout.trans (outside_takeDueExpiries s), fun a ha => ?_⟩
  rw [takeDue, a.takeDueExpiries_on]
  exact hsent a ha

/-! ### The inputs of a cycle -/

theorem timersView_takeInput (s : State) : (takeInput s).timersView = s.timersView := by
  unfold takeInput
  rcases edgesArrive_cases s.nextInput.edges (s.setCycleInputs s.cycleInputs.tail) with ⟨-, -, h⟩ | ⟨-, h⟩ <;> rw [h] <;>
    simp [waitAtPort, portEdges]

/-- The start of a cycle leaves what has a timer, and no request of before. -/
theorem timersView_cycleStart (c : Instr) (s : State) : (cycleStart c s).timersView = (s.setRequests []).timersView := by
  have hclear {u : State} (h : u.timersView = s.timersView) : (clearOutputs u).timersView = (s.setRequests []).timersView := by
    simp only [State.timersView, Prod.mk.injEq] at h
    obtain ⟨hpq, hprt, htags, hid, htimers, -, hop⟩ := h
    simp [State.timersView, clearOutputs, hpq, hprt, htags, hid, htimers, hop]
  unfold cycleStart
  split
  · exact hclear rfl
  · exact hclear (timersView_takeInput s)

/-! ### The start of a cycle is a change around the tables -/

/-- What the start of the cycle changes. -/
def startChange (c : Instr) (s : State) : Around where
  held := id
  stopped := id
  frame _ := (cycleStart c s).frameInProgress
  count := id
  waiting _ := (cycleStart c s).portWaiting
  inputs _ := (cycleStart c s).cycleInputs
  answers _ := []
  requests _ := []
  misos _ := []

theorem takeInput_eq_fields (s : State) :
    takeInput s = ((s.setFrameInProgress (takeInput s).frameInProgress).setPortWaiting (takeInput s).portWaiting).setCycleInputs
      (takeInput s).cycleInputs := by
  unfold takeInput
  rcases edgesArrive_cases s.nextInput.edges (s.setCycleInputs s.cycleInputs.tail) with ⟨-, -, h⟩ | ⟨-, h⟩ <;> rw [h] <;>
    (cases s; rfl)

theorem takeInput_outside (s : State) : takeInput s.outside = (takeInput s).outside := by
  unfold takeInput edgesArrive
  rw [apply_ite State.outside]
  rfl

/-- The start of a cycle looks at what stands outside the tables alone. -/
theorem cycleStart_eq (c : Instr) {s v : State} (h : v.outside = s.outside) : cycleStart c v = (startChange c s).on v := by
  have hinput : (takeInput v).outside = (takeInput s).outside := by rw [← takeInput_outside, ← takeInput_outside, h]
  have hfields : (startChange c s).on v = clearOutputs (((v.setFrameInProgress (cycleStart c s).frameInProgress).setPortWaiting
      (cycleStart c s).portWaiting).setCycleInputs (cycleStart c s).cycleInputs) := by
    unfold startChange
    generalize cycleStart c s = u
    cases v
    rfl
  rw [hfields]
  unfold cycleStart
  split
  · have hframe := frameInProgress_of_outside h
    have hwaiting := portWaiting_of_outside h
    have hinputs := cycleInputs_of_outside h
    simp only [State.outside_frameInProgress, State.outside_portWaiting, State.outside_cycleInputs] at hframe hwaiting hinputs
    simp [clearOutputs, ← hframe, ← hwaiting, ← hinputs]
  · have hframe := frameInProgress_of_outside hinput
    have hwaiting := portWaiting_of_outside hinput
    have hinputs := cycleInputs_of_outside hinput
    simp only [State.outside_frameInProgress, State.outside_portWaiting, State.outside_cycleInputs] at hframe hwaiting hinputs
    rw [takeInput_eq_fields v]
    simp [clearOutputs, hframe, hwaiting, hinputs]

/-! ### Outputs of what comes before a cycle, and the cycle -/

/-- The change leaves what is held and what is on the management port, and MISO's record comes at its end. -/
structure Around.KeepsPort (a : Around) : Prop where
  held : ∀ x, a.held x = x
  frame : ∀ x, a.frame x = x
  waiting : ∀ x, a.waiting x = x
  misos : ∀ x y, a.misos (x ++ y) = a.misos x ++ y

/-- Outputs that come before those that follow. -/
def Around.gave (x : List Answer) (y : List LinkRequest) (z : List Miso) : Around :=
  { Around.keep with answers := (x ++ ·), requests := (y ++ ·), misos := (z ++ ·) }

section
variable {a : Around} (hport : a.KeepsPort) (s : State)
include hport

theorem Around.setHeld_on (x : List HeldEvent) : (a.on s).setHeld x = a.on (s.setHeld x) := by
  unfold Around.on State.setHeld
  rw [hport.held x]

theorem Around.setFrameInProgress_on (x : FrameProgress) : (a.on s).setFrameInProgress x = a.on (s.setFrameInProgress x) := by
  unfold Around.on State.setFrameInProgress
  rw [hport.frame x]

theorem Around.setPortWaiting_on (x : List PortEvent) : (a.on s).setPortWaiting x = a.on (s.setPortWaiting x) := by
  unfold Around.on State.setPortWaiting
  rw [hport.waiting x]

theorem Around.on_held : (a.on s).held = s.held := hport.held _
theorem Around.on_frameInProgress : (a.on s).frameInProgress = s.frameInProgress := hport.frame _
theorem Around.on_portWaiting : (a.on s).portWaiting = s.portWaiting := hport.waiting _

theorem Around.portEdges_on (edges : List PortEdge) : portEdges edges (a.on s) = a.on (portEdges edges s) := by
  unfold portEdges
  rw [a.on_frameInProgress hport, a.setFrameInProgress_on hport]
  rfl

theorem Around.holdEvent_on (h : HeldEvent) : holdEvent h (a.on s) = a.on (holdEvent h s) := by
  unfold holdEvent
  rw [a.on_held hport, a.setHeld_on hport]

theorem Around.frameEnded_on (f : Frame) : frameEnded f (a.on s) = a.on (frameEnded f s) := by
  have hmiso : misoAtEnd (a.on s) f = misoAtEnd s f := by
    unfold misoAtEnd
    rw [a.on_frameInProgress hport]
    rfl
  have hmisos : (a.on s).setMisos ((a.on s).misos ++ [misoAtEnd s f]) = a.on (s.setMisos (s.misos ++ [misoAtEnd s f])) :=
    congrArg (a.on s).setMisos (hport.misos s.misos _).symm
  unfold frameEnded
  rw [hmiso, hmisos, a.setFrameInProgress_on hport]

theorem Around.holdFrameEnd_on (c : Instr) (f : Frame) : holdFrameEnd c f (a.on s) = a.on (holdFrameEnd c f s) := by
  unfold holdFrameEnd
  rw [a.on_frameInProgress hport]
  split <;> rw [a.frameEnded_on hport, a.holdEvent_on hport]

theorem Around.resumePort_on (events : List PortEvent) : resumePort events (a.on s) = a.on (resumePort events s) := by
  induction events generalizing s with
  | nil => exact a.setPortWaiting_on hport s []
  | cons e rest ih =>
    cases e with
    | edge e =>
      unfold resumePort
      rw [a.portEdges_on hport, ih]
    | frameEnd c =>
      unfold resumePort
      split
      · rw [a.holdFrameEnd_on hport, a.setPortWaiting_on hport]
      · exact ih s

theorem Around.takeHeldFrame_on (c : Instr) : takeHeldFrame c (a.on s) = a.on (takeHeldFrame c s) := by
  unfold takeHeldFrame
  split
  · rw [a.takeFrame_on, a.on_portWaiting hport, a.resumePort_on hport]
  · rfl

theorem Around.takeEvent_on (hanswers : a.KeepsAnswers) (h : HeldEvent) : takeEvent h (a.on s) = a.on (takeEvent h s) := by
  unfold takeEvent
  split
  · rw [a.on_portWaiting hport]
    exact a.resumePort_on hport (takeSpoiledFrame s) _
  · exact a.writeTransaction_on s hanswers _ _ _
  · exact a.readTransaction_on s hanswers _ _ _
  · exact a.takeWriteResponse_on s _ _
  · exact a.takeReadResponse_on s _ _
  · exact a.takeHeldFrame_on hport s _

end

section
variable (x : List Answer) (y : List LinkRequest) (z : List Miso) (s : State)

theorem Around.gave_keepsPort : (Around.gave x y z).KeepsPort :=
  ⟨fun _ => rfl, fun _ => rfl, fun _ => rfl, fun u v => (List.append_assoc z u v).symm⟩

theorem Around.gave_keepsAnswers : (Around.gave x y z).KeepsAnswers :=
  fun u v => (List.append_assoc x u v).symm

theorem Around.gave_keepsRequests : (Around.gave x y z).KeepsRequests :=
  fun u v => (List.append_assoc y u v).symm

theorem Around.gave_on :
    (Around.gave x y z).on s = ((s.setAnswers (x ++ s.answers)).setRequests (y ++ s.requests)).setMisos (z ++ s.misos) := rfl

theorem Around.takeDue_gave : takeDue ((Around.gave x y z).on s) = (Around.gave x y z).on (takeDue s) :=
  Around.takeDue_on _ s (Around.gave_keepsRequests x y z)

theorem Around.takeHeldUpTo_gave (n : Nat) : takeHeldUpTo n ((Around.gave x y z).on s) = (Around.gave x y z).on (takeHeldUpTo n s) := by
  induction n generalizing s with
  | zero => rfl
  | succ n ih =>
    have holdest : takeOldestHeld ((Around.gave x y z).on s) = (Around.gave x y z).on (takeOldestHeld s) := by
      unfold takeOldestHeld
      rw [Around.on_held (Around.gave_keepsPort x y z)]
      split
      · rfl
      · rw [Around.setHeld_on (Around.gave_keepsPort x y z),
          Around.takeEvent_on (Around.gave_keepsPort x y z) _ (Around.gave_keepsAnswers x y z),
          Around.takeDueGrants_on _ _ (Around.gave_keepsRequests x y z)]
    unfold takeHeldUpTo
    rw [holdest, ih]

/-- A cycle gives its outputs after those given before. -/
theorem Around.finishCycle_gave (ticks : Bool) (count : Fin 50) (stops : Bool) :
    finishCycle ticks count stops ((Around.gave x y z).on s) = (Around.gave x y z).on (finishCycle ticks count stops s) := by
  have hheld : takeAllHeld ((Around.gave x y z).on s) = (Around.gave x y z).on (takeAllHeld s) :=
    Around.takeHeldUpTo_gave x y z s _
  have hcount (u : State) : countCycle ticks count ((Around.gave x y z).on u) = (Around.gave x y z).on (countCycle ticks count u) := by
    cases ticks <;> rfl
  unfold finishCycle
  rw [hheld, hcount]
  have hstops : takeDueBeforeStop stops ((Around.gave x y z).on (countCycle ticks count (takeAllHeld s))) =
      (Around.gave x y z).on (takeDueBeforeStop stops (countCycle ticks count (takeAllHeld s))) := by
    rcases takeDueBeforeStop_cases stops ((Around.gave x y z).on (countCycle ticks count (takeAllHeld s))) with ⟨rfl, h⟩ | ⟨rfl, h⟩
    · rw [h, Around.takeDue_gave]
      rfl
    · exact h
  rw [hstops]
  rfl

end

end Sys2Proof.Machine

/-! ## The tick where nothing is due and nothing is held (R162). -/

namespace Sys2Proof.Machine

/-! ### Below the limits -/

/-- R162: the timer one further. -/
def Timer.next (t : Timer) : Timer :=
  { t with count := t.count + 1 }

/-- R162: an OPEN entry with its age one further. -/
def PqEntry.next (e : PqEntry) : PqEntry :=
  match e.state with
  | .opened age => { e with state := .opened age.next }
  | _ => e

/-- R162: a PARKED or LINGERING entry with its timer one further. -/
def PrtEntry.next (p : PrtEntry) : PrtEntry :=
  match p.state with
  | .parked r claim => { p with state := .parked r claim.next }
  | .lingering d linger => { p with state := .lingering d linger.next }
  | _ => p

/-- R162: a BUSY tag with its timer one further. -/
def Tag.next : Tag → Tag
  | .busy o timer => .busy o timer.next
  | tag => tag

theorem Timer.advance_of_not_due {t : Timer} (h : t.due = false) : t.advance = t.next :=
  if_pos (Nat.lt_of_not_le (of_decide_eq_false h))

theorem PqEntry.advanced_of_not_due {e : PqEntry} (h : e.ageDue = false) : e.advanced = e.next := by
  obtain ⟨id, i, l, bytes, kind, state⟩ := e
  cases state with
  | opened age =>
    have hage : age.due = false := h
    simp only [PqEntry.advanced, PqEntry.next, Timer.advance_of_not_due hage]
  | _ => rfl

theorem PrtEntry.advanced_of_not_due {p : PrtEntry} (h : p.claimDue = false ∧ p.lingerDue = false) : p.advanced = p.next := by
  obtain ⟨id, i, l, o, n, ra, state⟩ := p
  cases state with
  | parked r claim =>
    have hclaim : claim.due = false := h.1
    simp only [PrtEntry.advanced, PrtEntry.next, Timer.advance_of_not_due hclaim]
  | lingering d linger =>
    have hlinger : linger.due = false := h.2
    simp only [PrtEntry.advanced, PrtEntry.next, Timer.advance_of_not_due hlinger]
  | _ => rfl

theorem Tag.advanced_of_not_due {t : Tag} (h : t.due = false) : t.advanced = t.next := by
  cases t with
  | busy o timer =>
    have htimer : timer.due = false := h
    simp only [Tag.advanced, Tag.next, Timer.advance_of_not_due htimer]
  | _ => rfl

/-- R162: with no timer at its limit a tick adds one to every running timer. -/
theorem advanceTimers_of_nothingDue {s : State} (h : nothingDue s) :
    advanceTimers s = ((s.setPq (s.pq.map PqEntry.next)).setPrt (s.prt.map PrtEntry.next)).setTags (Vector.ofFn fun t => s.tags[t].next) := by
  obtain ⟨hage, hread, htag⟩ := h
  have hpq : s.pq.map PqEntry.advanced = s.pq.map PqEntry.next := List.map_congr_left fun e he => PqEntry.advanced_of_not_due (hage e he)
  have hprt : s.prt.map PrtEntry.advanced = s.prt.map PrtEntry.next :=
    List.map_congr_left fun p hp => PrtEntry.advanced_of_not_due (hread p hp)
  have htags : (fun t : TagNo => s.tags[t].advanced) = fun t => s.tags[t].next := funext fun t => Tag.advanced_of_not_due (htag t)
  rw [advanceTimers, hpq, hprt, htags]

/-! ### The cycle -/

/-- A change around the tables makes nothing due. -/
theorem takeDue_on_of_nothingDue {s : State} (hnone : nothingDue s) (hgrant : grantDue s = false) (a : Around) : takeDue (a.on s) = a.on s :=
  takeDue_of_nothingDue (s := a.on s) hnone hgrant

theorem takeDue_cycleStart {s : State} (hnone : nothingDue s) (hgrant : grantDue s = false) (c : Instr) :
    takeDue (cycleStart c s) = cycleStart c s := by
  rw [cycleStart_eq c rfl]
  exact takeDue_on_of_nothingDue hnone hgrant _

theorem cycleStart_held (c : Instr) (s : State) : (cycleStart c s).held = s.held := by
  unfold cycleStart
  split <;> simp [clearOutputs, takeInput_held]

theorem takeAllHeld_of_none {s : State} (h : s.held = []) : takeAllHeld s = s :=
  takeHeldUpTo_nil _ s h

/-- R162: with nothing due and nothing held a cycle is its inputs, its count and what is due before a stop. -/
theorem exec_quietCycle {c : Instr} (hc : c = .tick ∨ c = .refclkCycle) {s : State} (hpor : s.por = false) (hnone : nothingDue s)
    (hgrant : grantDue s = false) (hheld : s.held = []) :
    exec c s = .next ((takeDueBeforeStop (stopsAfter c s)
      (countCycle (ticksAt c s) (countAfter c s) (cycleStart c s))).setRefclkStopped (stopsAfter c s)) := by
  have hnoneHeld : (cycleStart c s).held = [] := (cycleStart_held c s).trans hheld
  rw [exec_cycle hc hpor, takeDue_cycleStart hnone hgrant, finishCycle, takeAllHeld_of_none hnoneHeld]

/-- R162: what the count makes of the tables, with the outputs gone. -/
theorem countCycle_clearOutputs (ticks : Bool) (count : Fin 50) (s : State) :
    countCycle ticks count (clearOutputs s) = clearOutputs ((if ticks then advanceTimers s else s).setTbCount count) := by
  cases ticks <;> cases s <;> rfl

/-- R162: the tick, or the cycle that counts alone. -/
theorem countCycle_refclkCycle (s : State) :
    (if ticksAt .refclkCycle s then advanceTimers s else s).setTbCount (countAfter .refclkCycle s) =
      if s.tbCount = 49 then (advanceTimers s).setTbCount 0 else s.setTbCount (s.tbCount + 1) := by
  by_cases h : s.tbCount = 49 <;> simp [ticksAt, countAfter, h]

/-- R148, R162: the cycle's count does not look at the inputs and the port. -/
theorem countCycle_inputs (ticks : Bool) (count : Fin 50) (s : State) (inputs : List CycleInput) (frame : FrameProgress) :
    countCycle ticks count (clearOutputs ((s.setCycleInputs inputs).setFrameInProgress frame)) =
      ((countCycle ticks count (clearOutputs s)).setCycleInputs inputs).setFrameInProgress frame := by
  cases ticks <;> cases s <;> rfl

/-- R148: with nothing held, the input's edges reach the frame in progress. -/
theorem cycleStart_of_none {s : State} (hpor : s.por = false) (hheld : s.held = []) :
    cycleStart .refclkCycle s = clearOutputs ((s.setCycleInputs s.cycleInputs.tail).setFrameInProgress
      (s.nextInput.edges.foldl (FrameProgress.edge false s.reply) s.frameInProgress)) := by
  have hnone : ∀ x ∈ s.held, x.port ≠ some .management := by simp [hheld]
  rw [cycleStart, if_neg nofun, takeInput_of_no_frame hnone, portEdges, ← hpor]
  rfl

theorem countCycle_por (ticks : Bool) (count : Fin 50) (s : State) : (countCycle ticks count s).por = s.por := by
  cases ticks <;> rfl

theorem countCycle_requests (ticks : Bool) (count : Fin 50) (s : State) : (countCycle ticks count s).requests = s.requests := by
  cases ticks <;> rfl

theorem cycleStart_por (c : Instr) (s : State) : (cycleStart c s).por = s.por := by
  rw [cycleStart_eq c rfl, Around.on_por]

theorem cycleStart_requests (c : Instr) (s : State) : (cycleStart c s).requests = [] := by
  rw [cycleStart_eq c rfl, Around.on_requests]
  rfl

theorem timersReady_cycleStart {s : State} (hinv : Inv s) (c : Instr) : TimersReady (cycleStart c s) :=
  have hstart : (s.setRequests []).timersStart := timersStart_of_inv (s := s) hinv
  TimersReady.follow (Follows.of_eq (timersView_cycleStart c s)).toTimersFollow
    ⟨(readsApart_of_inv hinv).of_sublist (List.Sublist.refl _) Nat.le.refl, hstart⟩

/-- R162: before REFCLK stops, what the count makes due is taken by its rows and grants. -/
theorem takeDue_beforeStop {y : State} (hready : TimersReady y) (hpor : y.por = false) (hrequests : y.requests = []) :
    ∃ (rows : List Instr) (sent : List LinkRequest) (u v : State), (∀ r ∈ rows, isExpiry r) ∧
      runsTo rows (y.setRefclkStopped false) u ∧ grantsTo sent u v ∧ nothingDue v ∧ grantDue v = false ∧
        (takeDue y).setRefclkStopped true = (v.setRequests sent).setRefclkStopped true := by
  have hrun : timersRun (y.setRefclkStopped false) = true := by simp [timersRun, hpor]
  obtain ⟨rows, sent, u, v, hrows, hruns, hgrants, hnone, hnotDue, -, htake⟩ := takeDue_split (s := y.setRefclkStopped false)
    (hready.follow (Follows.of_eq (timersView_setRefclkStopped y false)).toTimersFollow) (.inl hrun)
  refine ⟨rows, sent, u, v, hrows, hruns, hgrants, hnone, hnotDue, ?_⟩
  have hback : { Around.keep with stopped := fun _ => y.refclkStopped, requests := fun _ => [] : Around }.on (y.setRefclkStopped false) = y :=
    congrArg y.setRequests hrequests.symm
  rw [← hback, htake _ fun _ => rfl]
  rfl

/-- Settles O28: below the limits the tick adds one to every running timer; what is due before a stop goes by its rows and grants. -/
theorem tickAdvancesEveryRunningTimer : Obligations.TickAdvancesEveryRunningTimer := by
  intro s hpor hnone hgrant hheld ticked
  have hticked : ticked = (advanceTimers s).setTbCount 0 := (congrArg (State.setTbCount · 0) (advanceTimers_of_nothingDue hnone)).symm
  clear_value ticked
  subst hticked
  refine ⟨?_, fun x rest hx => ?_⟩
  · rw [exec_quietCycle (.inl rfl) hpor hnone hgrant hheld]
    exact congrArg (fun y => Host.Outcome.next (y.setRefclkStopped false)) (countCycle_clearOutputs true 0 s)
  · intro counted cycle
    have hinput : s.nextInput = x ∧ s.cycleInputs.tail = rest := by
      rcases hx with h | ⟨h, hedges, hstops, rfl⟩
      · simp [State.nextInput, h]
      · obtain ⟨edges, stops⟩ := x
        obtain rfl : edges = [] := hedges
        obtain rfl : stops = false := hstops
        simp [State.nextInput, h]
    obtain ⟨hnext, htail⟩ := hinput
    let y := countCycle (ticksAt .refclkCycle s) (countAfter .refclkCycle s) (cycleStart .refclkCycle s)
    have hy : y = (counted.setCycleInputs rest).setFrameInProgress
        (x.edges.foldl (FrameProgress.edge false s.reply) s.frameInProgress) := by
      change countCycle _ _ (cycleStart .refclkCycle s) = _
      rw [cycleStart_of_none hpor hheld, hnext, htail, countCycle_inputs, countCycle_clearOutputs, countCycle_refclkCycle]
    have hcycle : cycle = y.setRefclkStopped false := by
      rw [hy]
      rfl
    have hexec : exec .refclkCycle s = .next ((takeDueBeforeStop x.stops y).setRefclkStopped x.stops) := by
      rw [exec_quietCycle (.inr rfl) hpor hnone hgrant hheld, ← hnext]
      rfl
    refine ⟨fun hstops => ?_, fun hinv hstops => ?_⟩
    · rw [hexec, hstops, hcycle]
      rfl
    · have hready : TimersReady y := countCycle_keeps (fun _ _ => TimersReady.follow) (fun _ => TimersReady.advanceTimers) _ _
        (timersReady_cycleStart hinv _)
      have hpor' : y.por = false := (countCycle_por _ _ _).trans ((cycleStart_por _ s).trans hpor)
      have hrequests : y.requests = [] := (countCycle_requests _ _ _).trans (cycleStart_requests _ s)
      obtain ⟨rows, sent, u, v, hrows, hruns, hgrants, hlater, hnotDue, htake⟩ := takeDue_beforeStop hready hpor' hrequests
      refine ⟨rows, sent, u, v, hrows, ?_, hgrants, hlater, hnotDue, ?_⟩
      · rw [hcycle]
        exact hruns
      · rw [hexec, hstops]
        exact congrArg Host.Outcome.next htake

end Sys2Proof.Machine

/-! ## No due expiry and no due grant outlives the next cycle (R15, R60, R61, R73, R81, R162). -/

namespace Sys2Proof.Machine

/-! ### What a cycle does not bring back -/

/-- R14: no entry of the id, an old one, is OPEN. -/
def NotOpen (id : Nat) (u : State) : Prop :=
  id < u.nextId ∧ ∀ x ∈ u.pq, x.id = id → x.isOpen = false

/-- R63: no entry of the id, an old one, is in the PRT. -/
def ReadGone (id : Nat) (u : State) : Prop :=
  id < u.nextId ∧ ∀ q ∈ u.prt, q.id ≠ id

/-- R73: the tag is BUSY only with its request sent. -/
def BusyWithRequest (t : TagNo) (u : State) : Prop :=
  u.tags[t].isBusy = true → requestSent t u.requests

section
variable {u v : State}

theorem NotOpen.follow {id : Nat} (h : TimersFollow u v) (hu : NotOpen id u) : NotOpen id v := by
  obtain ⟨hold, hshut⟩ := hu
  refine ⟨Nat.lt_of_lt_of_le hold h.nextId, fun x hx hid => ?_⟩
  by_contra hopen
  rcases h.opens x hx (Bool.not_eq_false _ ▸ hopen) with ⟨y, hy, hyid, hstate⟩ | ⟨hnew, -⟩
  · exact hopen ((PqEntry.isOpen_congr hstate).symm.trans (hshut y hy (hyid.trans hid)))
  · omega

theorem NotOpen.around {id : Nat} (hu : NotOpen id u) (a : Around) : NotOpen id (a.on u) := hu

theorem ReadGone.around {id : Nat} (hu : ReadGone id u) (a : Around) : ReadGone id (a.on u) := hu

theorem PqEntry.advanced_isOpen (e : PqEntry) : e.advanced.id = e.id ∧ e.advanced.isOpen = e.isOpen := by
  obtain ⟨id, i, l, bytes, kind, state⟩ := e
  cases state <;> exact ⟨rfl, rfl⟩

theorem NotOpen.advanceTimers {id : Nat} (hu : NotOpen id u) : NotOpen id (advanceTimers u) := by
  obtain ⟨hold, hshut⟩ := hu
  refine ⟨hold, fun x hx hid => ?_⟩
  obtain ⟨e, he, rfl⟩ := List.mem_map.mp hx
  obtain ⟨hsame, hopen⟩ := e.advanced_isOpen
  exact hopen.trans (hshut e he (hsame.symm.trans hid))

theorem ReadGone.follow {id : Nat} (h : TimersFollow u v) (hu : ReadGone id u) : ReadGone id v := by
  obtain ⟨hold, hgone⟩ := hu
  refine ⟨Nat.lt_of_lt_of_le hold h.nextId, fun q hq hid => ?_⟩
  rcases h.reads q hq with ⟨p, hp, hpid⟩ | hnew
  · exact hgone p hp (hpid.trans hid)
  · omega

theorem ReadGone.advanceTimers {id : Nat} (hu : ReadGone id u) : ReadGone id (advanceTimers u) := by
  obtain ⟨hold, hgone⟩ := hu
  refine ⟨hold, fun q hq hid => ?_⟩
  obtain ⟨p, hp, rfl⟩ := List.mem_map.mp hq
  exact hgone p hp ((congrArg Prod.fst p.advanced_key).symm.trans hid)

theorem BusyWithRequest.follow {t : TagNo} (h : TimersFollow u v) (hu : BusyWithRequest t u) : BusyWithRequest t v := by
  intro hbusy
  rcases h.tagsBusy t hbusy with hbefore | hsent
  · exact (hu hbefore).mono h.requests.subset
  · exact hsent

theorem advanceTimers_get (u : State) (t : TagNo) : (advanceTimers u).tags[t] = u.tags[t].advanced := by
  simp [advanceTimers]

theorem BusyWithRequest.advanceTimers {t : TagNo} (hu : BusyWithRequest t u) : BusyWithRequest t (advanceTimers u) := by
  intro hbusy
  refine hu ?_
  rw [advanceTimers_get] at hbusy
  revert hbusy
  cases u.tags[t] <;> exact id

/-! ### A LAPSED tag stays LAPSED -/

theorem lapsed_grantOnce {t : TagNo} (h : u.tags[t] = .lapsed) : (grantOnce u).tags[t] = .lapsed := by
  have hgranted {k : TagNo} (hk : lowestFreeTag u.tags = some k) (r : Tag) : (setTag k r u).tags[t] = .lapsed := by
    rw [setTag_get, if_neg ?_]
    · exact h
    · rintro rfl
      have hfree := isFree_of_lowestFreeTag hk
      rw [h] at hfree
      cases hfree
  rcases grantOnce_cases u with ⟨-, heq⟩ | ⟨-, k, hk, ⟨e, -, heq⟩ | ⟨p, -, heq⟩⟩ <;> rw [heq]
  · exact h
  · exact hgranted hk _
  · exact hgranted hk _

theorem lapsed_takeDueGrants {t : TagNo} (h : u.tags[t] = .lapsed) : (takeDueGrants u).tags[t] = .lapsed := by
  unfold takeDueGrants
  induction allTags generalizing u with
  | nil => exact h
  | cons k l ih => exact ih (lapsed_grantOnce h)

theorem lapsed_takeDue {t : TagNo} (h : u.tags[t] = .lapsed) : (takeDue u).tags[t] = .lapsed := by
  refine lapsed_takeDueGrants ?_
  rw [takeDueExpiries_get, h]
  rfl

/-- R69, R162: with no event held a cycle leaves a LAPSED tag as it is. -/
theorem lapsed_finishCycle {t : TagNo} (hheld : u.held = []) (h : u.tags[t] = .lapsed) (ticks : Bool) (count : Fin 50) (stops : Bool) :
    (finishCycle ticks count stops u).tags[t] = .lapsed := by
  have hcounted : (countCycle ticks count u).tags[t] = .lapsed := by
    cases ticks
    · exact h
    · change (advanceTimers u).tags[t] = .lapsed
      rw [advanceTimers_get, h]
      rfl
  unfold finishCycle
  rw [takeAllHeld_of_none hheld]
  simp only [State.setRefclkStopped_tags]
  rcases takeDueBeforeStop_cases stops (countCycle ticks count u) with ⟨-, heq⟩ | ⟨-, heq⟩ <;> rw [heq]
  · exact lapsed_takeDue hcounted
  · exact hcounted

end

/-! ### What is due at the start of a cycle -/

section
variable {s : State} (hinv : Inv s)
include hinv

/-- R15: an entry whose age is due is not OPEN after the expiries. -/
theorem notOpen_takeDueExpiries {e : PqEntry} (he : e ∈ s.pq) (hdue : e.ageDue = true) : NotOpen e.id (takeDueExpiries s) := by
  obtain ⟨hids, -, hfresh, -⟩ := hinv.distinct
  have hfollow := follows_takeDueExpiries s
  refine ⟨Nat.lt_of_lt_of_le (hfresh e he) hfollow.nextId, fun x hx hid => ?_⟩
  by_contra hopen
  rcases hfollow.opens x hx (Bool.not_eq_false _ ▸ hopen) with ⟨y, hy, hyid, hstate⟩ | ⟨hnew, -⟩
  · obtain rfl : y = e := List.inj_on_of_nodup_map hids hy he (hyid.trans hid)
    have hnot := ageDue_takeDueExpiries s hx
    rw [← PqEntry.ageDue_congr hstate, hdue] at hnot
    cases hnot
  · have := hfresh e he
    omega

/-- R69: for a PARKED or LINGERING entry no tag fetches. -/
theorem timerIsDue_of_mem {p : PrtEntry} (hp : p ∈ s.prt) (hdue : p.timerDue = true) : TimerIsDue p.id s := by
  obtain ⟨-, hids, -⟩ := hinv.distinct
  have honly {q : PrtEntry} (hq : q ∈ s.prt) (hid : q.id = p.id) : q = p := List.inj_on_of_nodup_map hids hq hp hid
  refine ⟨fun q hq hid => honly hq hid ▸ hdue, fun t timer htag => ?_⟩
  have howner := hinv.tags.1 t
  rw [ownerAgrees, htag] at howner
  simp only [List.any_eq_true, Bool.and_eq_true, beq_iff_eq] at howner
  obtain ⟨q, hq, hid, hstate⟩ := howner
  obtain rfl := honly hq hid
  simp [PrtEntry.timerDue, PrtEntry.claimDue, PrtEntry.lingerDue, hstate] at hdue

/-- R60, R61: an entry whose claim or linger timer is due has left the PRT after the expiries. -/
theorem readGone_takeDueExpiries {p : PrtEntry} (hp : p ∈ s.prt) (hdue : p.timerDue = true) : ReadGone p.id (takeDueExpiries s) := by
  obtain ⟨-, -, -, hfresh⟩ := hinv.distinct
  refine ⟨Nat.lt_of_lt_of_le (hfresh p hp) (follows_takeDueExpiries s).nextId, fun q hq hid => ?_⟩
  have hstill := (timerIsDue_takeDueExpiries p.id s (timerIsDue_of_mem hinv hp hdue)).1 q hq hid
  have hnot := timerDue_takeDueExpiries s (readsApart_of_inv hinv) hq
  exact absurd (hnot.symm.trans hstill) (by decide)

end

/-- R162: what holds once the expiries are taken, and what every event and the tick keep, holds after the cycle. -/
theorem cycle_keeps {P : State → Prop} (hfollow : ∀ u v, TimersFollow u v → P u → P v) (hadvance : ∀ u, P u → P (advanceTimers u))
    {c : Instr} (hc : c = .tick ∨ c = .refclkCycle) {s t : State} (hpor : s.por = false) (hexec : exec c s = .next t)
    (hexpired : P ((startChange c s).on (takeDueExpiries s))) : P t := by
  rw [exec_cycle hc hpor] at hexec
  cases hexec
  rw [cycleStart_eq c rfl, takeDue, Around.takeDueExpiries_on]
  exact finishCycle_keeps hfollow hadvance _ _ _ (hfollow _ _ (follows_takeDueGrants _).toTimersFollow hexpired)

theorem Around.on_tbCount (a : Around) (u : State) : (a.on u).tbCount = a.count u.tbCount := rfl

/-- The count of REFCLK cycles stays where an operation on the tables commutes with its change. -/
theorem tbCount_takeDue (u : State) : (takeDue u).tbCount = u.tbCount := by
  have hsame : { Around.keep with count := fun _ => u.tbCount : Around }.on u = u := rfl
  have h := Around.takeDue_on { Around.keep with count := fun _ => u.tbCount } u fun _ _ => rfl
  rw [hsame] at h
  have hcount := congrArg State.tbCount h
  rwa [Around.on_tbCount] at hcount

theorem finishCycle_refclkStopped (ticks : Bool) (count : Fin 50) (stops : Bool) (u : State) :
    (finishCycle ticks count stops u).refclkStopped = stops :=
  State.setRefclkStopped_refclkStopped _ _

/-- R162: what is due before a stop is taken. -/
theorem nothingDue_finishCycle {u : State} (hready : TimersReady (takeAllHeld u)) (ticks : Bool) (count : Fin 50) :
    nothingDue (finishCycle ticks count true u) := by
  obtain ⟨hapart, hstart⟩ : TimersReady (countCycle ticks count (takeAllHeld u)) :=
    countCycle_keeps (fun _ _ => TimersReady.follow) (fun _ => TimersReady.advanceTimers) _ _ hready
  have hnone := nothingDue_takeDue hapart hstart
  unfold finishCycle takeDueBeforeStop
  generalize takeDue (countCycle ticks count (takeAllHeld u)) = v at hnone
  exact hnone

/-- R162: where a cycle ends in a stop of REFCLK nothing is due. -/
theorem nothingDue_of_stop {c : Instr} (hc : c = .tick ∨ c = .refclkCycle) {s t : State} (hinv : Inv s) (hpor : s.por = false)
    (hexec : exec c s = .next t) (hstopped : t.refclkStopped = true) : nothingDue t := by
  rw [exec_cycle hc hpor] at hexec
  cases hexec
  rw [finishCycle_refclkStopped] at hstopped
  have hwaiting : TimersReady (takeAllHeld (takeDue (cycleStart c s))) :=
    ((timersReady_cycleStart hinv c).follow (follows_takeDue _).toTimersFollow).follow (timersFollow_takeHeldUpTo _ _)
  rw [hstopped]
  exact nothingDue_finishCycle hwaiting _ _

/-- R162, R73: the cycle is the rows of what is due, GRANT after GRANT, and then the cycle itself. -/
theorem cycle_split {c : Instr} (hc : c = .tick ∨ c = .refclkCycle) {s t : State} (hinv : Inv s) (hpor : s.por = false)
    (hexec : exec c s = .next t) :
    ∃ (rows : List Instr) (sent : List LinkRequest) (u v w : State), (∀ r ∈ rows, isExpiry r) ∧ runsTo rows s u ∧
      grantsTo sent u v ∧ nothingDue v ∧ grantDue v = false ∧ exec c v = .next w ∧ t = w.setRequests (sent ++ w.requests) := by
  have hrun : timersRun s = true ∨ nothingDue s := by
    cases hstopped : s.refclkStopped
    · exact .inl (by simp [timersRun, hpor, hstopped])
    · exact .inr (hinv.stopped hstopped)
  obtain ⟨rows, sent, u, v, hrows, hruns, hgrants, hnone, hnotDue, hout, htake⟩ := takeDue_split (timersReady_of_inv hinv) hrun
  have hstart : takeDue (cycleStart c s) = (Around.gave [] sent []).on (cycleStart c v) := by
    rw [cycleStart_eq c rfl, htake _ fun _ => rfl, ← cycleStart_eq c hout, Around.gave_on, cycleStart_requests, List.append_nil]
    rfl
  have hcount : v.tbCount = s.tbCount := by
    have h := tbCount_takeDue ({ Around.keep with requests := fun _ => [] : Around }.on s)
    rw [htake _ fun _ => rfl] at h
    exact h
  have hticks : ticksAt c v = ticksAt c s := by rw [ticksAt, ticksAt, hcount]
  have hafter : countAfter c v = countAfter c s := by rw [countAfter, countAfter, hticks, hcount]
  have hstops : stopsAfter c v = stopsAfter c s := by
    have hinputs : v.cycleInputs = s.cycleInputs := (cycleInputs_of_outside hout).trans s.outside_cycleInputs
    rw [stopsAfter, stopsAfter, State.nextInput, State.nextInput, hinputs]
  have hporv : v.por = false := ((por_of_outside hout).trans s.outside_por).trans hpor
  refine ⟨rows, sent, u, v, _, hrows, hruns, hgrants, hnone, hnotDue, exec_cycle hc hporv, ?_⟩
  rw [exec_cycle hc hpor, hstart, Around.finishCycle_gave] at hexec
  cases hexec
  rw [takeDue_cycleStart hnone hnotDue, hticks, hafter, hstops]
  rfl

/-- Settles O29: what the expiries leave is kept by every later part of the cycle; the rows and grants come from the cycle's parts. -/
theorem dueExpiriesAreTakenByTheNextCycle : Obligations.DueExpiriesAreTakenByTheNextCycle := by
  intro s t c hinv hpor hc hexec
  refine ⟨fun e he hdue => ?_, fun p hp hdue => ?_, fun u hdue => ⟨fun hheld => ?_, ?_⟩, nothingDue_of_stop hc hinv hpor hexec,
    cycle_split hc hinv hpor hexec⟩
  · exact (cycle_keeps (fun _ _ => NotOpen.follow) (fun _ => NotOpen.advanceTimers) hc hpor hexec
      ((notOpen_takeDueExpiries hinv he hdue).around _)).2
  · have htimer : p.timerDue = true := by simpa [PrtEntry.timerDue] using hdue
    exact (cycle_keeps (fun _ _ => ReadGone.follow) (fun _ => ReadGone.advanceTimers) hc hpor hexec
      ((readGone_takeDueExpiries hinv hp htimer).around _)).2
  · rw [exec_cycle hc hpor] at hexec
    cases hexec
    refine lapsed_finishCycle ?_ ?_ _ _ _
    · have hsame : (takeDue (cycleStart c s)).held = (cycleStart c s).held := (held_of_outside (outside_takeDue _)).trans (State.outside_held _)
      rw [hsame, cycleStart_held, hheld]
    · refine lapsed_takeDueGrants ?_
      rw [cycleStart_eq c rfl, Around.takeDueExpiries_on, Around.on_tags, takeDueExpiries_get, if_pos hdue]
  · have hlapsed : (takeDueExpiries s).tags[u] = .lapsed := by rw [takeDueExpiries_get, if_pos hdue]
    refine cycle_keeps (P := BusyWithRequest u) (fun _ _ => BusyWithRequest.follow) (fun _ => BusyWithRequest.advanceTimers) hc hpor hexec ?_
    intro hbusy
    rw [Around.on_tags, hlapsed] at hbusy
    cases hbusy

end Sys2Proof.Machine

/-! ## Every event that waits is taken by the next cycle (R148, R162). -/

namespace Sys2Proof.Machine

/-- R148, R162: how many events wait, at the interfaces and on the port. -/
def State.waitingCount (s : State) : Nat :=
  s.held.length + s.portWaiting.length

/-- R148: something waits on the port only behind a frame end that is held. -/
def State.PortWaitsBehind (s : State) : Prop :=
  s.portWaiting ≠ [] → ∃ h ∈ s.held, h.port = some .management

section
variable {u v : State}

theorem held_eq_of_outside (h : v.outside = u.outside) : v.held = u.held :=
  (held_of_outside h).trans u.outside_held

theorem portWaiting_eq_of_outside (h : v.outside = u.outside) : v.portWaiting = u.portWaiting :=
  (portWaiting_of_outside h).trans u.outside_portWaiting

theorem waitingCount_of_outside (h : v.outside = u.outside) : v.waitingCount = u.waitingCount := by
  rw [State.waitingCount, State.waitingCount, held_eq_of_outside h, portWaiting_eq_of_outside h]

theorem State.PortWaitsBehind.of_outside (hu : u.PortWaitsBehind) (h : v.outside = u.outside) : v.PortWaitsBehind := by
  rw [State.PortWaitsBehind, held_eq_of_outside h, portWaiting_eq_of_outside h]
  exact hu

theorem State.PortWaitsBehind.clearOutputs (hu : u.PortWaitsBehind) : (clearOutputs u).PortWaitsBehind := hu

theorem holdFrameEnd_held (c : Instr) (f : Frame) (u : State) : ∃ x, (holdFrameEnd c f u).held = u.held ++ [x] ∧
    (frameOfInstr c = some f → x.port = some .management) := by
  rcases holdFrameEnd_cases c f u with ⟨-, h⟩ | ⟨-, h⟩ <;> rw [h]
  · exact ⟨.spoiledFrame, rfl, fun _ => rfl⟩
  · exact ⟨.arrival c, rfl, fun hf => (frameOfInstr_isSome_iff c).mp (hf ▸ rfl)⟩

/-- R148: the port takes up events, and at most the frame end that it comes to is held. -/
theorem waitingCount_resumePort (events : List PortEvent) (u : State) :
    (resumePort events u).waitingCount ≤ u.held.length + events.length := by
  induction events generalizing u with
  | nil => exact Nat.le.refl
  | cons e rest ih =>
    cases e with
    | edge e => exact (ih (portEdges [e] u)).trans (Nat.add_le_add_left (Nat.le_succ _) _)
    | frameEnd c =>
      unfold resumePort
      split
      · rename_i f _
        obtain ⟨x, hx, -⟩ := holdFrameEnd_held c f u
        simp [State.waitingCount, hx]
        omega
      · exact (ih u).trans (Nat.add_le_add_left (Nat.le_succ _) _)

/-- R148: where the port stops at a frame end, that is held. -/
theorem portWaitsBehind_resumePort (events : List PortEvent) (u : State) : (resumePort events u).PortWaitsBehind := by
  induction events generalizing u with
  | nil => exact fun h => absurd rfl h
  | cons e rest ih =>
    cases e with
    | edge e => exact ih (portEdges [e] u)
    | frameEnd c =>
      unfold resumePort
      split
      · rename_i f hf
        obtain ⟨x, hx, hport⟩ := holdFrameEnd_held c f u
        exact fun _ => ⟨x, by simp [hx], hport hf⟩
      · exact ih u

theorem waitingCount_takeEvent (h : HeldEvent) (u : State) : (takeEvent h u).waitingCount ≤ u.waitingCount := by
  by_cases hport : h.port = some .management
  · obtain ⟨v, r, hv, hout⟩ := takeEvent_of_management hport u
    have hheld : v.held = u.held := (held_of_outside hout).trans rfl
    have hcount := waitingCount_resumePort u.portWaiting v
    rw [hheld] at hcount
    rw [hv]
    exact hcount
  · exact Nat.le_of_eq (waitingCount_of_outside (outside_takeEvent hport u))

/-- R162: the oldest event is no longer among those that wait. -/
theorem waitingCount_takeOldestHeld (hheld : u.held ≠ []) : (takeOldestHeld u).waitingCount + 1 ≤ u.waitingCount := by
  rcases takeOldestHeld_cases u with ⟨hnil, -⟩ | ⟨h, rest, hcons, heq⟩
  · exact absurd hnil hheld
  · have htaken := waitingCount_takeEvent h (u.setHeld rest)
    have hcount : u.waitingCount = (u.setHeld rest).waitingCount + 1 := by
      simp [State.waitingCount, hcons]
      omega
    rw [heq, waitingCount_of_outside (outside_takeDueGrants _), hcount]
    omega

theorem State.PortWaitsBehind.takeOldestHeld (hu : u.PortWaitsBehind) : (takeOldestHeld u).PortWaitsBehind := by
  rcases takeOldestHeld_cases u with ⟨-, heq⟩ | ⟨h, rest, hcons, heq⟩ <;> rw [heq]
  · exact hu
  · refine State.PortWaitsBehind.of_outside ?_ (outside_takeDueGrants _)
    by_cases hport : h.port = some .management
    · obtain ⟨v, r, hv, -⟩ := takeEvent_of_management hport (u.setHeld rest)
      rw [hv]
      exact portWaitsBehind_resumePort _ v
    · refine State.PortWaitsBehind.of_outside (u := u.setHeld rest) (fun hne => ?_) (outside_takeEvent hport _)
      obtain ⟨x, hx, hmgmt⟩ := hu hne
      rw [hcons] at hx
      rcases List.mem_cons.mp hx with rfl | hx
      · exact absurd hmgmt hport
      · exact ⟨x, hx, hmgmt⟩

theorem State.PortWaitsBehind.takeHeldUpTo (hu : u.PortWaitsBehind) (n : Nat) : (takeHeldUpTo n u).PortWaitsBehind := by
  induction n generalizing u with
  | zero => exact hu
  | succ n ih => exact ih hu.takeOldestHeld

/-- R162: as many takes as events wait leave none held. -/
theorem takeHeldUpTo_held {n : Nat} (hn : u.waitingCount ≤ n) : (takeHeldUpTo n u).held = [] := by
  induction n generalizing u with
  | zero => exact List.length_eq_zero_iff.mp (Nat.le_zero.mp ((Nat.le_add_right ..).trans hn))
  | succ n ih =>
    by_cases hheld : u.held = []
    · rw [takeHeldUpTo_nil _ u hheld, hheld]
    · exact ih (Nat.le_of_succ_le_succ ((waitingCount_takeOldestHeld hheld).trans hn))

theorem takeAllHeld_held (u : State) : (takeAllHeld u).held = [] :=
  takeHeldUpTo_held Nat.le.refl

/-- R162: further takes find nothing. -/
theorem takeHeldUpTo_eq_takeAllHeld {n : Nat} (hn : u.waitingCount ≤ n) : takeHeldUpTo n u = takeAllHeld u := by
  obtain ⟨k, rfl⟩ := Nat.exists_eq_add_of_le hn
  rw [takeHeldUpTo_add]
  exact takeHeldUpTo_nil _ _ (takeAllHeld_held u)

/-- R162: all events are the oldest, and then all others. -/
theorem takeAllHeld_oldest (hheld : u.held ≠ []) : takeAllHeld u = takeAllHeld (takeOldestHeld u) := by
  have hleft := waitingCount_takeOldestHeld hheld
  obtain ⟨n, hn⟩ := Nat.exists_eq_add_of_le' ((Nat.le_add_left 1 _).trans hleft)
  have hall : takeAllHeld u = takeHeldUpTo (n + 1) u := congrArg (takeHeldUpTo · u) hn
  rw [hall, takeHeldUpTo]
  exact takeHeldUpTo_eq_takeAllHeld (by omega)

theorem takeAllHeld_portWaiting (hu : u.PortWaitsBehind) : (takeAllHeld u).portWaiting = [] := by
  by_contra hne
  obtain ⟨h, hmem, -⟩ := hu.takeHeldUpTo _ hne
  have hnone := takeAllHeld_held u
  unfold takeAllHeld at hnone
  rw [hnone] at hmem
  cases hmem

end

/-! ### The cycle -/

/-- The count and the stop leave what waits. -/
theorem finishCycle_waiting (ticks : Bool) (count : Fin 50) (stops : Bool) (u : State) :
    (finishCycle ticks count stops u).held = (takeAllHeld u).held ∧
      (finishCycle ticks count stops u).portWaiting = (takeAllHeld u).portWaiting := by
  have hcount (v : State) : (countCycle ticks count v).outside = v.outside := by cases ticks <;> rfl
  have hout : (takeDueBeforeStop stops (countCycle ticks count (takeAllHeld u))).outside = (takeAllHeld u).outside := by
    rcases takeDueBeforeStop_cases stops (countCycle ticks count (takeAllHeld u)) with ⟨-, h⟩ | ⟨-, h⟩ <;> rw [h]
    · rw [outside_takeDue, hcount]
    · exact hcount _
  unfold finishCycle
  rw [State.setRefclkStopped_held, State.setRefclkStopped_portWaiting]
  exact ⟨held_eq_of_outside hout, portWaiting_eq_of_outside hout⟩

theorem portWaitsBehind_takeInput {s : State} (hs : s.PortWaitsBehind) : (takeInput s).PortWaitsBehind := by
  by_cases hframe : ∃ x ∈ s.held, x.port = some .management
  · intro _
    rw [takeInput_held]
    exact hframe
  · have hnone : ∀ x ∈ s.held, x.port ≠ some .management := fun x hx hport => hframe ⟨x, hx, hport⟩
    rw [takeInput_of_no_frame hnone]
    exact hs

/-- R148, R162: after a cycle nothing waits, at the interfaces or on the port. -/
theorem nothingWaits_of_cycle {c : Instr} (hc : c = .tick ∨ c = .refclkCycle) {s t : State} (hinv : Inv s) (hpor : s.por = false)
    (hexec : exec c s = .next t) : t.held = [] ∧ t.portWaiting = [] := by
  have hbehind : s.PortWaitsBehind := hinv.port.2.2.1
  have hstart : (cycleStart c s).PortWaitsBehind := by
    unfold cycleStart
    split
    · exact hbehind.clearOutputs
    · exact (portWaitsBehind_takeInput hbehind).clearOutputs
  rw [exec_cycle hc hpor] at hexec
  cases hexec
  obtain ⟨hheld, hwaiting⟩ := finishCycle_waiting (ticksAt c s) (countAfter c s) (stopsAfter c s) (takeDue (cycleStart c s))
  exact ⟨hheld.trans (takeAllHeld_held _), hwaiting.trans (takeAllHeld_portWaiting (hstart.of_outside (outside_takeDue _)))⟩

end Sys2Proof.Machine

/-! ## The oldest held event is taken as on a running part, and the cycle goes on with the others (R148, R151, R162). -/

namespace Sys2Proof.Machine

/-! ### One event on a running part -/

/-- The part as the oldest event would find it on a running REFCLK. -/
def State.running (s : State) : State :=
  ((s.setHeld []).setRefclkStopped false).setFrameInProgress .csHigh

/-- The answers that an event of the D-bus gives. -/
def answersOf (h : HeldEvent) (x : List Answer) : List Answer :=
  if h.port = some .deviceBus then x else []

/-- The event, taken on the part as it runs, leaves `v`. -/
structure TakenRunning (h : HeldEvent) (u v : State) : Prop where
  arrival : ∀ d, h = .arrival d → exec d u = .next v
  spoiled : h = .spoiledFrame → v = u.setReply { status := .frameError, data := [] }
  por : v.por = false
  frameEnd : h.port = some .management → ∀ k : Around, (∀ x, k.answers x = []) → (∀ x, k.misos x = []) →
    takeEvent h (k.on u) = resumePort (k.on u).portWaiting (k.on v)
  other : h.port ≠ some .management → ∀ k : Around, (∀ x, k.answers x = answersOf h x) →
    takeEvent h (k.on (u.setAnswers [])) = k.on v

theorem takeEvent_frame {d : Instr} {f : Frame} (hf : frameOfInstr d = some f) (w : State) :
    takeEvent (.arrival d) w = resumePort w.portWaiting (takeFrame d f w) := by
  have hevent : takeEvent (.arrival d) w = takeHeldFrame d w := by
    cases d <;> cases hf <;> rfl
  rw [hevent, takeHeldFrame, hf]

/-- R151: MISO's record of the frame is an output, and the frame is over already. -/
theorem Around.on_frameEnded {u : State} (hframe : u.frameInProgress = .csHigh) {k : Around} (hmisos : ∀ x, k.misos x = []) (f : Frame) :
    k.on (frameEnded f (u.setMisos [])) = k.on u := by
  simp [Around.on, frameEnded, hmisos, hframe]

theorem answersOf_deviceBus {h : HeldEvent} (hport : h.port = some .deviceBus) {k : Around} (hk : ∀ x, k.answers x = answersOf h x) :
    k.KeepsAnswers := by
  intro x y
  rw [hk, hk, answersOf, answersOf, if_pos hport, if_pos hport]

section
variable {u : State} (hpor : u.por = false) (hrun : u.refclkStopped = false)
include hpor hrun

theorem takenRunning_frame (hframe : u.frameInProgress = .csHigh) {d : Instr} {f : Frame} (hf : frameOfInstr d = some f) :
    ∃ v, TakenRunning (.arrival d) u v := by
  have hport : portOfInstr d = some .management := (frameOfInstr_isSome_iff d).mp (hf ▸ rfl)
  have hexec : exec d u = .next (takeFrame d f (frameEnded f (u.setMisos []))) := by
    rw [exec_eq_endFrame hf, endFrame_eq d f u hf]
    rcases arriveAtManagement_cases d f (u.setMisos []) with ⟨h, -⟩ | ⟨-, -, h⟩ | ⟨-, h, -⟩ | ⟨-, h, -⟩
    · exact absurd (hpor.symm.trans h) (by decide)
    · rcases takeFrameEnd_cases d f (u.setMisos []) with ⟨⟨r, n, hreset⟩, -⟩ | ⟨-, htake⟩
      · exact absurd (hframe.symm.trans hreset) nofun
      · rw [h, htake]
    · exact absurd (hrun.symm.trans h) (by decide)
    · exact absurd (hrun.symm.trans h) (by decide)
  obtain ⟨r, hout⟩ := outside_takeFrame (frameEnded f (u.setMisos [])) d f
  refine ⟨_, fun d' h => by cases h; exact hexec, nofun, (por_of_outside hout).trans hpor, fun _ k _ hmisos => ?_, fun h => absurd hport h⟩
  rw [takeEvent_frame hf, ← k.takeFrame_on, k.on_frameEnded hframe hmisos]

omit hrun in
theorem takenRunning_spoiled : ∃ v, TakenRunning .spoiledFrame u v :=
  ⟨takeSpoiledFrame u, nofun, fun _ => rfl, hpor, fun _ _ _ _ => rfl, fun h => absurd rfl h⟩

/-- A transaction that is taken gives its answer after the answers given before. -/
theorem takenRunning_transaction (hbus : u.busReset = false) {d : Instr} {take : State → State} (hport : portOfInstr d = some .deviceBus)
    (hexec : ∀ w, exec d w = .next (arriveAtDeviceBus d take (w.setAnswers []))) (htake : ∀ w, takeEvent (.arrival d) w = take w)
    (hout : (take (u.setAnswers [])).outside = (u.setAnswers []).outside)
    (haround : ∀ (k : Around) w, k.KeepsAnswers → take (k.on w) = k.on (take w)) : ∃ v, TakenRunning (.arrival d) u v := by
  have hother : (HeldEvent.arrival d).port ≠ some .management := fun h => absurd (hport.symm.trans h) (by decide)
  have hrunning : exec d u = .next (take (u.setAnswers [])) := by
    rw [hexec]
    rcases arriveAtDeviceBus_cases d take (u.setAnswers []) with ⟨h | h, -⟩ | ⟨-, -, h, -⟩ | ⟨-, -, -, h⟩
    · exact absurd (hpor.symm.trans h) (by decide)
    · exact absurd (hbus.symm.trans h) (by decide)
    · exact absurd (hrun.symm.trans h) (by decide)
    · rw [h]
  refine ⟨take (u.setAnswers []), fun d' h => by cases h; exact hrunning, nofun, (por_of_outside hout).trans hpor,
    fun h => absurd h hother, fun _ k hk => ?_⟩
  rw [htake, haround k _ (answersOf_deviceBus (h := .arrival d) hport hk)]

/-- A response that is taken gives no answer. -/
theorem takenRunning_response {d : Instr} {take : State → State} (hport : portOfInstr d = some .memoryLink)
    (hexec : ∀ w, exec d w = .next (arriveAtMemoryLink d take w)) (htake : ∀ w, takeEvent (.arrival d) w = take w)
    (hout : (take u).outside = u.outside) (haround : ∀ (k : Around) w, take (k.on w) = k.on (take w)) :
    ∃ v, TakenRunning (.arrival d) u v := by
  have hother : (HeldEvent.arrival d).port ≠ some .management := fun h => absurd (hport.symm.trans h) (by decide)
  have hbus : (HeldEvent.arrival d).port ≠ some .deviceBus := fun h => absurd (hport.symm.trans h) (by decide)
  have hrunning : exec d u = .next (take u) := by
    rw [hexec]
    rcases arriveAtMemoryLink_cases d take u with ⟨h, -⟩ | ⟨-, h, -⟩ | ⟨-, -, h⟩
    · exact absurd (hpor.symm.trans h) (by decide)
    · exact absurd (hrun.symm.trans h) (by decide)
    · rw [h]
  refine ⟨take u, fun d' h => by cases h; exact hrunning, nofun, (por_of_outside hout).trans hpor, fun h => absurd h hother,
    fun _ k hk => ?_⟩
  have hnone (x : List Answer) : k.answers x = [] := (hk x).trans (if_neg hbus)
  have hclear : k.on (u.setAnswers []) = k.on u := by simp [Around.on, hnone]
  rw [htake, hclear, haround]

/-- R162: each event that is held has its effect on a running part. -/
theorem exists_takenRunning (hframe : u.frameInProgress = .csHigh) {h : HeldEvent} (hport : h.port ≠ none)
    (hbus : h.port = some .deviceBus → u.busReset = false) : ∃ v, TakenRunning h u v := by
  cases h with
  | spoiledFrame => exact takenRunning_spoiled hpor
  | arrival d =>
    cases hf : frameOfInstr d with
    | some f => exact takenRunning_frame hpor hrun hframe hf
    | none =>
      cases d with
      | write i a data =>
        exact takenRunning_transaction hpor hrun (hbus rfl) rfl (fun _ => rfl) (fun _ => rfl) (outside_writeTransaction ..)
          fun k w hk => k.writeTransaction_on w hk i a data
      | read i a n =>
        exact takenRunning_transaction hpor hrun (hbus rfl) rfl (fun _ => rfl) (fun _ => rfl) (outside_readTransaction ..)
          fun k w hk => k.readTransaction_on w hk i a n
      | writeResponse t st =>
        exact takenRunning_response hpor hrun rfl (fun _ => rfl) (fun _ => rfl) (outside_takeWriteResponse u t st)
          fun k w => k.takeWriteResponse_on w t st
      | readResponse t r =>
        exact takenRunning_response hpor hrun rfl (fun _ => rfl) (fun _ => rfl) (outside_takeReadResponse u t r)
          fun k w => k.takeReadResponse_on w t r
      | _ => simp [frameOfInstr, HeldEvent.port, portOfInstr] at hf hport

end

end Sys2Proof.Machine

/-! ## A cycle with events held is the oldest event and then the cycle with the others (R162). -/

namespace Sys2Proof.Machine

/-! ### The parts of the statement -/

/-- What the oldest event left, with the other events still held and what the start of the cycle brought to the port. -/
def withOthersHeld (rest : List HeldEvent) (x : State) (inputs : List CycleInput) (v : State) : State :=
  (((((v.setHeld rest).setRefclkStopped true).setFrameInProgress x.frameInProgress).setPortWaiting x.portWaiting).setCycleInputs
    inputs).setMisos []

/-- R148: after a frame end the port goes on. -/
def portGoesOn (h : HeldEvent) (waiting : List PortEvent) (u : State) : State :=
  if h.port = some .management then resumePort waiting u else u

/-- The inputs with the edges of the cycle taken out. -/
def inputsWithoutEdges (c : Instr) (s : State) : List CycleInput :=
  if c = .tick then s.cycleInputs else { edges := [], stops := s.nextInput.stops } :: s.cycleInputs.tail

/-- The change from the running part to the part at the start of the cycle, with the other events held. -/
def heldChange (h : HeldEvent) (rest : List HeldEvent) (x : State) : Around where
  held _ := rest
  stopped _ := true
  frame _ := x.frameInProgress
  count := id
  waiting _ := x.portWaiting
  inputs _ := x.cycleInputs
  answers := answersOf h
  requests _ := []
  misos _ := []

/-- The cycle's inputs taken, and the outputs of before gone but for answers. -/
def inputsTaken (inputs : List CycleInput) (x : List Answer) : Around :=
  { Around.keep with inputs := fun _ => inputs, answers := fun _ => x, requests := fun _ => [] }

theorem inputsTaken_keepsPort (inputs : List CycleInput) (x : List Answer) : (inputsTaken inputs x).KeepsPort :=
  ⟨fun _ => rfl, fun _ => rfl, fun _ => rfl, fun _ _ => rfl⟩

theorem answersOf_nil (h : HeldEvent) : answersOf h [] = [] :=
  ite_self _

section
variable {h : HeldEvent} {rest : List HeldEvent} {s v : State} (c : Instr)

theorem cycleStart_setHeld (hstopped : s.refclkStopped = true) :
    (cycleStart c s).setHeld rest = (heldChange h rest (cycleStart c s)).on (s.running.setAnswers []) := by
  have hstart : (cycleStart c s).setHeld rest = ((startChange c s).on s).setHeld rest := by rw [cycleStart_eq c rfl]
  rw [hstart]
  unfold startChange heldChange
  generalize cycleStart c s = x
  simp [Around.on, State.running, State.setHeld, State.setRefclkStopped, State.setFrameInProgress, State.setAnswers, answersOf_nil, hstopped]

theorem heldChange_on (x : State) (inputs : List CycleInput) (v : State) :
    (heldChange h rest x).on v = (inputsTaken x.cycleInputs (answersOf h v.answers)).on (withOthersHeld rest x inputs v) := by
  cases v
  rfl

/-- R162: the oldest event at the start of the cycle is that event on the running part, and the port going on. -/
theorem takeEvent_cycleStart (hstopped : s.refclkStopped = true) (hv : TakenRunning h s.running v) (inputs : List CycleInput) :
    takeEvent h ((cycleStart c s).setHeld rest) =
      (inputsTaken (cycleStart c s).cycleInputs (answersOf h v.answers)).on
        (portGoesOn h (cycleStart c s).portWaiting (withOthersHeld rest (cycleStart c s) inputs v)) := by
  have hstart := cycleStart_setHeld (h := h) (rest := rest) c hstopped
  rw [hstart]
  generalize cycleStart c s = x
  by_cases hport : h.port = some .management
  · have hnone (y : List Answer) : (heldChange h rest x).answers y = [] := if_neg (by simp [hport])
    have hsame : (heldChange h rest x).on (s.running.setAnswers []) = (heldChange h rest x).on s.running := by
      simp [Around.on, hnone]
    rw [hsame, hv.frameEnd hport _ hnone fun _ => rfl, heldChange_on x inputs v, portGoesOn, if_pos hport]
    exact Around.resumePort_on (inputsTaken_keepsPort _ _) _ _
  · rw [hv.other hport _ fun _ => rfl, heldChange_on x inputs v, portGoesOn, if_neg hport]

/-- R148: with no edge among its inputs, the start of a cycle takes the input and clears the outputs. -/
theorem cycleStart_withoutEdges {u : State} (hu : u.cycleInputs = inputsWithoutEdges c s) :
    cycleStart c u = clearOutputs (u.setCycleInputs (cycleStart c s).cycleInputs) := by
  unfold cycleStart
  unfold inputsWithoutEdges at hu
  split
  · rw [if_pos ‹_›] at hu
    change clearOutputs u = clearOutputs (u.setCycleInputs s.cycleInputs)
    rw [← hu]
    rfl
  · rw [if_neg ‹_›] at hu
    have hedges : u.nextInput.edges = [] := by rw [nextInput_of_cons hu]
    have hrest : (clearOutputs (takeInput s)).cycleInputs = u.cycleInputs.tail := by
      rw [hu]
      exact takeInput_cycleInputs s
    rw [hrest, takeInput, hedges]
    congr 1
    rcases edgesArrive_cases [] (u.setCycleInputs u.cycleInputs.tail) with ⟨-, -, heq⟩ | ⟨-, heq⟩ <;> rw [heq]
    · simp only [waitAtPort, List.map_nil, List.append_nil]
      rfl
    · rfl

/-- The outputs of what came first, before those of the cycle to come. -/
theorem inputsTaken_on {u : State} (hu : u.cycleInputs = inputsWithoutEdges c s) (x : List Answer) :
    (inputsTaken (cycleStart c s).cycleInputs x).on u = (Around.gave x [] u.misos).on (cycleStart c u) := by
  rw [cycleStart_withoutEdges c hu, Around.gave_on]
  generalize (cycleStart c s).cycleInputs = inputs
  simp only [clearOutputs, State.setMisos_answers, State.setRequests_answers, State.setAnswers_answers, State.setMisos_requests,
    State.setRequests_requests, State.setMisos_misos, List.append_nil]
  cases u
  rfl

theorem resumePort_por (events : List PortEvent) (u : State) : (resumePort events u).por = u.por := by
  induction events generalizing u with
  | nil => rfl
  | cons e rest ih =>
    cases e with
    | edge e => exact ih (portEdges [e] u)
    | frameEnd d =>
      unfold resumePort
      split
      · rcases holdFrameEnd_cases d _ u with ⟨-, h⟩ | ⟨-, h⟩ <;> rw [h] <;> rfl
      · exact ih u

theorem portGoesOn_por (waiting : List PortEvent) (u : State) : (portGoesOn h waiting u).por = u.por := by
  unfold portGoesOn
  split
  · exact resumePort_por waiting u
  · rfl

theorem portGoesOn_cycleInputs (waiting : List PortEvent) (u : State) : (portGoesOn h waiting u).cycleInputs = u.cycleInputs := by
  unfold portGoesOn
  split
  · exact resumePort_cycleInputs waiting u
  · rfl

theorem cycleStart_tbCount (s : State) : (cycleStart c s).tbCount = s.tbCount := by
  rw [cycleStart_eq c rfl, Around.on_tbCount]
  rfl

/-- With the same count, and the same level of REFCLK after it, a cycle counts and stops in the same way. -/
theorem cycle_counts_same {u : State} (hcount : u.tbCount = s.tbCount) (hu : u.cycleInputs = inputsWithoutEdges c s) :
    ticksAt c u = ticksAt c s ∧ countAfter c u = countAfter c s ∧ stopsAfter c u = stopsAfter c s := by
  have hticks : ticksAt c u = ticksAt c s := by rw [ticksAt, ticksAt, hcount]
  refine ⟨hticks, by rw [countAfter, countAfter, hticks, hcount], ?_⟩
  unfold inputsWithoutEdges at hu
  by_cases htick : c = .tick
  · rw [stopsAfter, stopsAfter, decide_eq_true htick]
    rfl
  · rw [if_neg htick] at hu
    rw [stopsAfter, stopsAfter, nextInput_of_cons hu]

theorem tbCount_takeEvent (h : HeldEvent) (u : State) : (takeEvent h u).tbCount = u.tbCount := by
  have hsame : { Around.keep with count := fun _ => u.tbCount : Around }.on u = u := rfl
  have hkeeps : { Around.keep with count := fun _ => u.tbCount : Around }.KeepsPort :=
    ⟨fun _ => rfl, fun _ => rfl, fun _ => rfl, fun _ _ => rfl⟩
  have hevent := Around.takeEvent_on hkeeps u (fun _ _ => rfl) h
  rw [hsame] at hevent
  have hcount := congrArg State.tbCount hevent
  rwa [Around.on_tbCount] at hcount

end

/-! ### The cycle -/

section
variable {h : HeldEvent} {rest : List HeldEvent} {s v : State} {c : Instr} (hc : c = .tick ∨ c = .refclkCycle) (hinv : Inv s)
  (hnone : nothingDue s) (hgrant : grantDue s = false) (hheld : s.held = h :: rest)
include hc hinv hnone hgrant hheld

/-- R162: a cycle that finds events held is the oldest of them and then the cycle with the others; it gives the outputs of both. -/
theorem exec_cycle_oldest (hv : TakenRunning h s.running v) :
    let u := portGoesOn h (cycleStart c s).portWaiting (withOthersHeld rest (cycleStart c s) (inputsWithoutEdges c s) v)
    ∃ w, exec c u = .next w ∧ exec c s = .next ((Around.gave (answersOf h v.answers) [] u.misos).on w) := by
  intro u
  have hstopped : s.refclkStopped = true := hinv.held.1 (by simp [hheld])
  have hpor : s.por = false := por_of_held hinv (hheld ▸ List.mem_cons_self)
  have hinputs : u.cycleInputs = inputsWithoutEdges c s := portGoesOn_cycleInputs _ _
  have hporu : u.por = false := (portGoesOn_por _ _).trans hv.por
  have hevent : takeEvent h ((cycleStart c s).setHeld rest) = (Around.gave (answersOf h v.answers) [] u.misos).on (cycleStart c u) := by
    rw [takeEvent_cycleStart c hstopped hv, inputsTaken_on c hinputs]
  clear_value u
  have hcount : u.tbCount = s.tbCount := by
    have hsame := congrArg State.tbCount hevent
    rw [tbCount_takeEvent, State.setHeld_tbCount, cycleStart_tbCount, Around.on_tbCount, cycleStart_tbCount] at hsame
    exact hsame.symm
  have hstart : ((cycleStart c s).setHeld rest).timersStart ∧ nothingDue ((cycleStart c s).setHeld rest) := by
    have htimers : s.timersStart := timersStart_of_inv hinv
    rw [cycleStart_eq c rfl]
    exact ⟨htimers, hnone⟩
  have hlater : nothingDue (cycleStart c u) := by
    have h := (timersFollow_takeEvent ((cycleStart c s).setHeld rest) h).nothingDue hstart.1 hstart.2
    rw [hevent] at h
    exact h
  have holdest : takeOldestHeld (cycleStart c s) = (Around.gave (answersOf h v.answers) [] u.misos).on (takeDue (cycleStart c u)) := by
    have hfirst : (cycleStart c s).held = h :: rest := (cycleStart_held c s).trans hheld
    rw [takeOldestHeld, hfirst]
    dsimp only
    rw [hevent, Around.takeDueGrants_on _ _ (Around.gave_keepsRequests _ _ _), takeDue, takeDueExpiries_of_nothingDue hlater]
  have hall : takeAllHeld (cycleStart c s) = takeAllHeld (takeOldestHeld (cycleStart c s)) :=
    takeAllHeld_oldest (by simp [cycleStart_held, hheld])
  obtain ⟨hticks, hafter, hstops⟩ := cycle_counts_same c hcount hinputs
  refine ⟨_, exec_cycle hc hporu, ?_⟩
  rw [exec_cycle hc hpor, takeDue_cycleStart hnone hgrant, ← Around.finishCycle_gave, ← holdest, hticks, hafter, hstops]
  unfold finishCycle
  rw [hall]

end

end Sys2Proof.Machine

/-! ## What the management port looks at as held events are taken, and the order of the held events (R148, R151, R162). -/

namespace Sys2Proof.Machine

/-- R148: the edges that come with the cycle. -/
def edgesOf (c : Instr) (s : State) : List PortEdge :=
  if c = .tick then [] else s.nextInput.edges

/-! ### The port at the start of a cycle -/

section
variable {s : State} (c : Instr)

/-- R148: behind a frame end that waits, the edges wait. -/
theorem cycleStart_port_of_frame (hinv : Inv s) (hpor : s.por = false) (hframe : ∃ x ∈ s.held, x.port = some .management) :
    (cycleStart c s).portWaiting = s.portWaiting ++ (edgesOf c s).map .edge ∧ (cycleStart c s).frameInProgress = .csHigh := by
  obtain ⟨x, hx, hport⟩ := hframe
  have hhigh : s.frameInProgress = .csHigh := hinv.port.1 x hx hport
  unfold cycleStart edgesOf
  split
  · simp [clearOutputs, hhigh]
  · rw [takeInput_of_frame hpor ⟨x, hx, hport⟩]
    simp [clearOutputs, waitAtPort, hhigh]

/-- R148: where none waits, the edges reach the frame in progress. -/
theorem cycleStart_port_of_none (hinv : Inv s) (hpor : s.por = false) (hnone : ¬∃ x ∈ s.held, x.port = some .management) :
    (cycleStart c s).portWaiting = [] ∧
      (cycleStart c s).frameInProgress = (edgesOf c s).foldl (FrameProgress.edge false s.reply) s.frameInProgress := by
  have hwaiting : s.portWaiting = [] := by
    by_contra hne
    exact hnone (hinv.port.2.2.1 hne)
  unfold cycleStart edgesOf
  split
  · simp [clearOutputs, hwaiting]
  · rw [takeInput_of_no_frame fun x hx hport => hnone ⟨x, hx, hport⟩, portEdges, ← hpor]
    simp [clearOutputs, hwaiting]

end

/-! ### What waited behind a frame end -/

/-- R148, R151: no frame is in progress, or one with the reply going out. -/
def FrameProgress.sends (held : Reply) (f : FrameProgress) : Prop :=
  f = .csHigh ∨ ∃ bits, f = .receiving bits held

theorem FrameProgress.sends_foldl {held : Reply} (edges : List PortEdge) {f : FrameProgress} (h : f.sends held) :
    (edges.foldl (FrameProgress.edge false held) f).sends held := by
  induction edges generalizing f with
  | nil => exact h
  | cons e edges ih =>
    refine ih ?_
    rcases h with rfl | ⟨bits, rfl⟩
    · cases e with
      | csFall => exact .inr ⟨[], rfl⟩
      | sck b => exact .inl rfl
    · cases e with
      | csFall => exact .inr ⟨bits, rfl⟩
      | sck b => exact .inr ⟨bits ++ [b], rfl⟩

/-- R151, R162: the end of a frame with that reply going out is held as it was received, and MISO has carried the reply. -/
theorem holdFrameEnd_of_sends {u : State} (hpor : u.por = false) (hmisos : u.misos = []) (hsends : u.frameInProgress.sends u.reply)
    (d : Instr) (f : Frame) :
    holdFrameEnd d f u = ((u.setFrameInProgress .csHigh).setHeld (u.held ++ [.arrival d])).setMisos
      [shiftOut (sentByte u.reply) f.bytes.length f.extra.val] := by
  have hmiso : misoAtEnd u f = shiftOut (sentByte u.reply) f.bytes.length f.extra.val := by
    rcases hsends with h | ⟨bits, h⟩ <;> simp [misoAtEnd, h, hpor]
  have hhold : holdFrameEnd d f u = holdEvent (.arrival d) (frameEnded f u) := by
    rcases hsends with h | ⟨bits, h⟩ <;> rw [holdFrameEnd, h]
  rw [hhold, holdEvent, frameEnded, hmiso, hmisos]
  rfl

section
variable {u : State} (hpor : u.por = false) (hframe : u.frameInProgress = .csHigh)
include hpor hframe

/-- R148, R151: a frame that begins there is shifted in with the reply then held going out. -/
theorem resumePort_frameStart (bits : List Bool) :
    resumePort (.edge .csFall :: bits.map (fun b => PortEvent.edge (.sck b))) u =
      (u.setFrameInProgress (.receiving bits u.reply)).setPortWaiting [] := by
  have hevents : PortEvent.edge .csFall :: bits.map (fun b => PortEvent.edge (.sck b)) =
      (PortEdge.csFall :: bits.map PortEdge.sck).map .edge ++ [] := by
    simp [Function.comp_def]
  rw [hevents, resumePort_edges, resumePort, portEdges, hpor, hframe, edges_of_frameStart]
  rfl

/-- R148: the end of a frame there is held in its turn, with the rest still waiting. -/
theorem resumePort_frameEnd (hmisos : u.misos = []) (before : List PortEdge) {d : Instr} {f : Frame} (hf : frameOfInstr d = some f)
    (more : List PortEvent) :
    resumePort (before.map .edge ++ .frameEnd d :: more) u =
      ((u.setPortWaiting more).setHeld (u.held ++ [.arrival d])).setMisos [shiftOut (sentByte u.reply) f.bytes.length f.extra.val] := by
  have hsends : (portEdges before u).frameInProgress.sends u.reply := by
    rw [portEdges_eq, State.setFrameInProgress_frameInProgress, hpor]
    exact FrameProgress.sends_foldl before (.inl hframe)
  have hkeep : (portEdges before u).setFrameInProgress .csHigh = u := by
    rw [← hframe]
    rfl
  have hstop : resumePort (.frameEnd d :: more) (portEdges before u) = (holdFrameEnd d f (portEdges before u)).setPortWaiting more := by
    rw [resumePort, hf]
  rw [resumePort_edges, hstop, holdFrameEnd_of_sends (u := portEdges before u) hpor hmisos hsends, hkeep]
  rfl

end

/-! ### The order of the held events -/

/-- Settles O33: each held event has its effect on the running part, and the cycle goes on with the others; the port by its own rules. -/
theorem heldEventsAreTakenInOrder : Obligations.HeldEventsAreTakenInOrder := by
  refine ⟨fun s t c hinv hpor hc hexec => nothingWaits_of_cycle hc hinv hpor hexec, ?_⟩
  intro s h rest hinv hpor hnone hgrant hheld running frameWaits
  have hmem : h ∈ s.held := hheld ▸ List.mem_cons_self
  have hbus : h.port = some .deviceBus → s.running.busReset = false := by
    intro hport
    by_contra hreset
    exact hinv.held.2.2 (Bool.not_eq_false _ ▸ hreset) h hmem hport
  obtain ⟨v, hv⟩ := exists_takenRunning (u := s.running) hpor rfl rfl (hinv.held.2.1 h hmem) hbus
  refine ⟨v, hv.arrival, hv.spoiled, fun c hc => ?_⟩
  intro edges waiting frame inputs base u given
  have hwaiting : waiting = (cycleStart c s).portWaiting := by
    by_cases hfw : frameWaits
    · exact (if_pos hfw).trans (cycleStart_port_of_frame c hinv hpor hfw).1.symm
    · exact (if_neg hfw).trans (cycleStart_port_of_none c hinv hpor hfw).1.symm
  have hframe : frame = (cycleStart c s).frameInProgress := by
    by_cases hfw : frameWaits
    · exact (if_pos hfw).trans (cycleStart_port_of_frame c hinv hpor hfw).2.symm
    · exact (if_neg hfw).trans (cycleStart_port_of_none c hinv hpor hfw).2.symm
  have hbase : base = withOthersHeld rest (cycleStart c s) (inputsWithoutEdges c s) v := by
    rw [withOthersHeld, ← hwaiting, ← hframe]
    rfl
  have hu : u = portGoesOn h (cycleStart c s).portWaiting (withOthersHeld rest (cycleStart c s) (inputsWithoutEdges c s) v) := by
    rw [← hbase, ← hwaiting]
    rfl
  obtain ⟨w, hw, hexec⟩ := exec_cycle_oldest hc hinv hnone hgrant hheld hv
  refine ⟨⟨w, hu ▸ hw, ?_⟩, fun hport => ?_⟩
  · rw [hexec, ← hu, Around.gave_on]
    cases w
    rfl
  · have hhigh : base.frameInProgress = .csHigh := if_pos ⟨h, hmem, hport⟩
    have hresume : u = resumePort waiting base := if_pos hport
    rw [hresume]
    refine ⟨fun bits hbits => ?_, fun before d f more hmore hf => ?_⟩
    · rw [hbits]
      exact resumePort_frameStart (u := base) hv.por hhigh bits
    · rw [hmore]
      exact resumePort_frameEnd (u := base) hv.por hhigh rfl before hf more

end Sys2Proof.Machine
